-- ==== Sys2Proof/Word.lean ====
section
/-! DEFINITION. The words of CORE (the widths of 00_scope.md R9), its channels (R14) and the two
containers that hold one value per channel. -/

namespace Sys2Proof

/-- Eight bits: `target[c]`, `current[c]`, `duty[k]`, `tick`, a table entry (10_state.md R22, R23,
R28, R29; 20_memory.md R54). -/
abbrev Byte := BitVec 8

/-- Format PHASE, 2 bits: a position number of an encoder (30_encoding.md R72, R73). -/
abbrev PhaseCode := BitVec 2

/-- Format LANES, 3 bits: bit `c` belongs to button `c` (30_encoding.md R75). -/
abbrev Lanes := BitVec 3

/-- Format IN, 9 bits: the inputs of one tick (30_encoding.md R70). -/
abbrev InWord := BitVec 9

/-- Format OP, 6 bits: `{op[3:0], ch[1:0]}` (30_encoding.md R80). -/
abbrev OpWord := BitVec 6

/-- A colour channel `c`: it indexes encoders, buttons, targets and current levels
(00_scope.md R14). -/
inductive Colour where
  | red
  | green
  | blue
deriving DecidableEq, Repr

/-- An output channel `k`: it indexes decomposed levels and duty outputs (00_scope.md R14). -/
inductive OutChannel where
  | red
  | green
  | blue
  | white
deriving DecidableEq, Repr

/-- The number of a colour channel: R = 0, G = 1, B = 2 (00_scope.md R14). -/
def Colour.index : Colour → Nat
  | .red => 0
  | .green => 1
  | .blue => 2

/-- The same colour as an output channel; it has the same number (00_scope.md R14). -/
def Colour.out : Colour → OutChannel
  | .red => .red
  | .green => .green
  | .blue => .blue

/-- The number of an output channel: R = 0, G = 1, B = 2, W = 3 (00_scope.md R14). -/
def OutChannel.index : OutChannel → Nat
  | .red => 0
  | .green => 1
  | .blue => 2
  | .white => 3

/-- One value for each colour channel: the register vectors `v[0..2]` of 10_state.md. -/
structure PerColour (α : Type) where
  red : α
  green : α
  blue : α
deriving DecidableEq, Repr

/-- One value for each output channel: the register vectors `v[0..3]` of 10_state.md. -/
structure PerOut (α : Type) where
  red : α
  green : α
  blue : α
  white : α
deriving DecidableEq, Repr

/-- `v[c]` (00_scope.md R13). -/
def PerColour.get {α : Type} (v : PerColour α) : Colour → α
  | .red => v.red
  | .green => v.green
  | .blue => v.blue

/-- `v` after `v[c] <- a` (00_scope.md R13). -/
def PerColour.set {α : Type} (v : PerColour α) (c : Colour) (a : α) : PerColour α :=
  match c with
  | .red => { v with red := a }
  | .green => { v with green := a }
  | .blue => { v with blue := a }

/-- The same value in each of the three channels. -/
def PerColour.all {α : Type} (a : α) : PerColour α := ⟨a, a, a⟩

/-- `v[k]` (00_scope.md R13). -/
def PerOut.get {α : Type} (v : PerOut α) : OutChannel → α
  | .red => v.red
  | .green => v.green
  | .blue => v.blue
  | .white => v.white

/-- `v` after `v[k] <- a` (00_scope.md R13). -/
def PerOut.set {α : Type} (v : PerOut α) (k : OutChannel) (a : α) : PerOut α :=
  match k with
  | .red => { v with red := a }
  | .green => { v with green := a }
  | .blue => { v with blue := a }
  | .white => { v with white := a }

/-- The same value in each of the four channels. -/
def PerOut.all {α : Type} (a : α) : PerOut α := ⟨a, a, a, a⟩

end Sys2Proof
end

