-- ==== Sys2Proof/Config.lean ====
section
/-! DEFINITION. What a build of CORE fixes: the constants of 00_scope.md R8, and the two constant
tables, whose contents the spec leaves open (00_scope.md R10). -/

namespace Sys2Proof.Config

/-- ENC_MAX: the largest Target Level, 10 detents of 4 quadrature states (00_scope.md R8). -/
@[simp] abbrev encMax : Nat := 40

/-- LONGPRESS_START: the reload value of the long-press countdown, in ticks (00_scope.md R8). -/
@[simp] abbrev longpressStart : Nat := 750

/-- The number of bits of a byte that are set; `popcount` of 92_eei_decisions.md D15. -/
def popcount (b : Byte) : Nat :=
  (b.getLsbD 0).toNat + (b.getLsbD 1).toNat + (b.getLsbD 2).toNat + (b.getLsbD 3).toNat +
  (b.getLsbD 4).toNat + (b.getLsbD 5).toNat + (b.getLsbD 6).toNat + (b.getLsbD 7).toNat

/-- `GAMMA_REF` of 45_gamma_dither_pwm.md R176, by its formula. It is found in no source and stands
here for examples only: no claim about the hardware may rest on it. -/
def gammaRef (i : Fin 41) : Byte :=
  BitVec.ofNat 8 (i.val + (215 * i.val * i.val + 800) / 1600)

/-- `DITHER_REF` of 45_gamma_dither_pwm.md R176. It is found in no source and stands here for
examples only: no claim about the hardware may rest on it. -/
def ditherRef (j : Fin 4) : Byte :=
  match j with
  | 0 => 0x00#8
  | 1 => 0x11#8
  | 2 => 0x55#8
  | 3 => 0x77#8

/-- A pair of tables that meets everything a model may assume of `GAMMA` (45_gamma_dither_pwm.md
R166 a to e) and of `DITHER` (R169 a to c). The defaults make the reference instance a term of this
type, which shows that the constraints can be met together. -/
structure Tables where
  /-- R166 (a), (b), (e): 41 entries of 8 bits, constant. -/
  gamma : Fin 41 → Byte := gammaRef
  /-- R169 (a), (c): 4 entries of 8 bits, constant. -/
  dither : Fin 4 → Byte := ditherRef
  /-- R166 (c): monotonic in the weak sense. -/
  gamma_mono : ∀ i j : Fin 41, i ≤ j → (gamma i).toNat ≤ (gamma j).toNat := by decide
  /-- R166 (d), the lower end. -/
  gamma_first : gamma 0 = 0#8 := by decide
  /-- R166 (d), the upper end. -/
  gamma_last : gamma 40 = 255#8 := by decide
  /-- R169 (b): entry `j` has exactly `2 j` bits set. -/
  dither_density : ∀ j : Fin 4, popcount (dither j) = 2 * j.val := by decide
deriving Inhabited

/-- The reference instance of 45_gamma_dither_pwm.md R176, for examples (REF) only. -/
def refTables : Tables := {}

/-- THE TWO TABLES OF THE HARDWARE. Their contents are open (00_scope.md R10, 92_eei_decisions.md
D15), so this constant has no body: no proof can see an entry, and all a proof knows of it are the
constraints that the type carries. UNVERIFIED (unsafe if the real tables break a constraint):
notes/assumptions/1.md. -/
opaque tables : Tables

end Sys2Proof.Config
end

