-- ==== Sys2Proof/Syntax.lean ====
section
/-! DEFINITION. The seventeen rows of spec/opcode_table.json as syntax (30_encoding.md R85, R83), and
the raw form in which the outside world presents one of them to CORE. -/

namespace Sys2Proof

/-- One constructor per row of spec/opcode_table.json: the fifteen operations of one tick
(30_encoding.md R85) and the two events that come from outside (R83). A channel operand is a
constructor, so the reserved channel patterns of R86 have no term here. -/
inductive Instr where
  /-- op 0: latch the 9 inputs and copy `tick` to `t`. -/
  | sample
  /-- op 1: form the phase code of encoder `c`. -/
  | phase (c : Colour)
  /-- op 2: classify the move of encoder `c` and store its phase code. -/
  | qdec (c : Colour)
  /-- op 3: step `target[c]` by the move, clamped. -/
  | tstep (c : Colour)
  /-- op 4: one update of the three debounce vectors. -/
  | debounce
  /-- op 5: find the press edges. -/
  | press
  /-- op 6: toggle `target[c]` on a press edge of button `c`. -/
  | ttoggle (c : Colour)
  /-- op 7: reload or count down `rpt`. -/
  | longpress
  /-- op 8: clear the three targets when the countdown fires. -/
  | tclear
  /-- op 9: in a fade tick, move `current[c]` one unit toward `target[c]`. -/
  | fade (c : Colour)
  /-- op 10: split the current levels into white and residuals. -/
  | decomp
  /-- op 11: look up `GAMMA` for output channel `k`. -/
  | gamma (k : OutChannel)
  /-- op 12: select the dither bit of output channel `k`. -/
  | dither (k : OutChannel)
  /-- op 13: write `duty[k]`. -/
  | duty (k : OutChannel)
  /-- op 14: advance the tick counter. -/
  | tickinc
  /-- The event on `tick_req`, with the 9-bit input word as its operand. -/
  | tick (inputs : InWord)
  /-- The event on `rst`. -/
  | reset
deriving DecidableEq, Repr

/-- What the outside presents at one instant: the level of `rst`, and a word (30_encoding.md R83).
Two bytes are an input word with a request on `tick_req` (format IN), one byte is an OP word (format
OP), no byte is no request. The bytes are the model's own packing (DESIGN CHOICE, safe:
notes/assumptions/5.md). -/
structure Request where
  /-- The level of the control input `rst` (20_memory.md R52). -/
  rst : Bool
  /-- The word presented, its first byte holding the low bits. -/
  word : List Byte
deriving DecidableEq, Repr

end Sys2Proof
end

