-- ==== Sys2Proof/WellFormed.lean ====
section
/-! DEFINITION. Which raw words stand for an instruction (30_encoding.md R85, R86). `Instr` itself has
no ill-formed term: its channel operands are constructors, so every check is one on the raw word. -/

namespace Sys2Proof

/-- The field `op = OP[5:2]` (30_encoding.md R84). -/
def OpWord.op (w : OpWord) : Nat := (w.extractLsb' 2 4).toNat

/-- The field `ch = OP[1:0]` (30_encoding.md R84). -/
def OpWord.ch (w : OpWord) : Nat := (w.extractLsb' 0 2).toNat

/-- Reserved by 30_encoding.md R86: `op = 15` with any `ch`. -/
def OpWord.reservedOperation (w : OpWord) : Bool := w.op == 15

/-- Reserved by 30_encoding.md R86: `ch = 11` for PHASE, QDEC, TSTEP, TTOGGLE, FADE. -/
def OpWord.reservedColour (w : OpWord) : Bool :=
  [1, 2, 3, 6, 9].contains w.op && w.ch == 3

/-- Reserved by 30_encoding.md R86: `ch != 00` for SAMPLE, DEBOUNCE, PRESS, LONGPRESS, TCLEAR,
DECOMP, TICKINC. -/
def OpWord.reservedChannelField (w : OpWord) : Bool :=
  [0, 4, 5, 7, 8, 10, 14].contains w.op && w.ch != 0

/-- An OP word that stands for an operation: none of the three reserved patterns of
30_encoding.md R86. -/
def OpWord.wellFormed (w : OpWord) : Bool :=
  !(w.reservedOperation || w.reservedColour || w.reservedChannelField)

/-- A request that stands for an instruction. With `rst` applied it is RESET whatever the word
(60_exceptions.md R205); otherwise one byte holds an OP word and two bytes hold a 9-bit input word,
all of whose values are legal (30_encoding.md R70). -/
def Request.wellFormed (q : Request) : Bool :=
  q.rst ||
  match q.word with
  | [b] => decide (b.toNat < 64) && OpWord.wellFormed (b.setWidth 6)
  | [_, hi] => decide (hi.toNat < 2)
  | _ => false

end Sys2Proof
end

