-- ==== Sys2Proof/Decode.lean ====
section
/-! DEFINITION. The decoder, total on any request and rejecting by name, and after it the encoder
(30_encoding.md R70, R80 to R86). The hardware decodes nothing at run time (R84): these are the spec's
bookkeeping formats. -/

namespace Sys2Proof

/-- Why a request stands for no instruction. -/
inductive DecodeError where
  /-- `op = 15` (30_encoding.md R86). -/
  | reservedOperation
  /-- `ch = 11` on an operation of a colour channel (30_encoding.md R86). -/
  | reservedColour
  /-- `ch != 00` on an operation without a channel (30_encoding.md R86). -/
  | reservedChannelField
  /-- A one-byte word with a bit set above the 6 bits of format OP. -/
  | bitsAboveOp
  /-- A two-byte word with a bit set above the 9 bits of format IN. -/
  | bitsAboveIn
  /-- A word that is neither one byte nor two. -/
  | badLength (bytes : Nat)
deriving DecidableEq, Repr

/-- The field `op = OP[5:2]` (30_encoding.md R84). -/
def opField (w : OpWord) : Nat := (w.extractLsb' 2 4).toNat

/-- The field `ch = OP[1:0]` (30_encoding.md R84). -/
def chField (w : OpWord) : Nat := (w.extractLsb' 0 2).toNat

/-- The colour channel of a field `ch`; 11 is reserved (30_encoding.md R81). -/
def colourOfBits (ch : Nat) : Option Colour :=
  match ch with
  | 0 => some .red
  | 1 => some .green
  | 2 => some .blue
  | _ => none

/-- The output channel of a field `ch` (30_encoding.md R81). -/
def outOfBits (ch : Nat) : OutChannel :=
  match ch with
  | 0 => .red
  | 1 => .green
  | 2 => .blue
  | _ => .white

/-- An operation of a colour channel. -/
def decodeOnColour (ch : Nat) (f : Colour → Instr) : Except DecodeError Instr :=
  match colourOfBits ch with
  | some c => .ok (f c)
  | none => .error .reservedColour

/-- An operation without a channel, whose field `ch` is 00. -/
def decodeNoChannel (ch : Nat) (i : Instr) : Except DecodeError Instr :=
  if ch = 0 then .ok i else .error .reservedChannelField

/-- Format OP: the row of 30_encoding.md R85 for `op = OP[5:2]` and `ch = OP[1:0]`, or the reserved
pattern it is (R84, R86). -/
def decodeOp (w : OpWord) : Except DecodeError Instr :=
  match opField w with
  | 0 => decodeNoChannel (chField w) .sample
  | 1 => decodeOnColour (chField w) .phase
  | 2 => decodeOnColour (chField w) .qdec
  | 3 => decodeOnColour (chField w) .tstep
  | 4 => decodeNoChannel (chField w) .debounce
  | 5 => decodeNoChannel (chField w) .press
  | 6 => decodeOnColour (chField w) .ttoggle
  | 7 => decodeNoChannel (chField w) .longpress
  | 8 => decodeNoChannel (chField w) .tclear
  | 9 => decodeOnColour (chField w) .fade
  | 10 => decodeNoChannel (chField w) .decomp
  | 11 => .ok (.gamma (outOfBits (chField w)))
  | 12 => .ok (.dither (outOfBits (chField w)))
  | 13 => .ok (.duty (outOfBits (chField w)))
  | 14 => decodeNoChannel (chField w) .tickinc
  | _ => .error .reservedOperation

/-- A word presented without `rst`: one byte in format OP, or two bytes in format IN, every value of
which is legal (30_encoding.md R70, R80). -/
def decodeWord (bytes : List Byte) : Except DecodeError Instr :=
  match bytes with
  | [b] => if b.toNat < 64 then decodeOp (b.setWidth 6) else .error .bitsAboveOp
  | [lo, hi] => if hi.toNat < 2 then .ok (.tick (hi.setWidth 1 ++ lo)) else .error .bitsAboveIn
  | _ => .error (.badLength bytes.length)

/-- A request: RESET while `rst` is applied, the word then being dropped (60_exceptions.md R205);
else its word. -/
def decodeRequest (q : Request) : Except DecodeError Instr :=
  if q.rst then .ok .reset else decodeWord q.word

/-- The field `ch` of a colour channel (30_encoding.md R81). -/
def colourBits : Colour → BitVec 2
  | .red => 0b00#2
  | .green => 0b01#2
  | .blue => 0b10#2

/-- The field `ch` of an output channel (30_encoding.md R81). -/
def outBits : OutChannel → BitVec 2
  | .red => 0b00#2
  | .green => 0b01#2
  | .blue => 0b10#2
  | .white => 0b11#2

/-- The request that presents the OP word `{op, ch}` (30_encoding.md R80). -/
def opRequest (op : BitVec 4) (ch : BitVec 2) : Request :=
  { rst := false, word := [(op ++ ch).setWidth 8] }

/-- The request that presents an input word on the ports together with `tick_req`
(30_encoding.md R83). -/
def tickRequest (w : InWord) : Request :=
  { rst := false, word := [w.setWidth 8, (w.extractLsb' 8 1).setWidth 8] }

/-- The request that applies `rst` (30_encoding.md R83). -/
def resetRequest : Request := { rst := true, word := [] }

/-- The encoder: the request that stands for an instruction, from the patterns of
30_encoding.md R85 and R83. -/
def encode : Instr → Request
  | .sample => opRequest 0b0000#4 0b00#2
  | .phase c => opRequest 0b0001#4 (colourBits c)
  | .qdec c => opRequest 0b0010#4 (colourBits c)
  | .tstep c => opRequest 0b0011#4 (colourBits c)
  | .debounce => opRequest 0b0100#4 0b00#2
  | .press => opRequest 0b0101#4 0b00#2
  | .ttoggle c => opRequest 0b0110#4 (colourBits c)
  | .longpress => opRequest 0b0111#4 0b00#2
  | .tclear => opRequest 0b1000#4 0b00#2
  | .fade c => opRequest 0b1001#4 (colourBits c)
  | .decomp => opRequest 0b1010#4 0b00#2
  | .gamma k => opRequest 0b1011#4 (outBits k)
  | .dither k => opRequest 0b1100#4 (outBits k)
  | .duty k => opRequest 0b1101#4 (outBits k)
  | .tickinc => opRequest 0b1110#4 0b00#2
  | .tick w => tickRequest w
  | .reset => resetRequest

/-- The lowest `n` bytes of `w`, low byte first. -/
def lowBytes (n w : Nat) : List Byte :=
  match n with
  | 0 => []
  | n + 1 => BitVec.ofNat 8 w :: lowBytes n (w / 256)

/-- How a word of spec/opcode_table.json is presented. The table's three formats are told apart by
their length, but OP (6 bits) and RST (1 bit) both fill one byte: the one-byte word 1 is the level of
`rst`, since as an OP word it is reserved (30_encoding.md R86) and stands for nothing (DESIGN CHOICE,
safe: notes/assumptions/5.md). -/
def requestOfTableWord (nbits w : Nat) : Request :=
  if nbits ≤ 8 ∧ w = 1 then resetRequest
  else { rst := false, word := lowBytes ((nbits + 7) / 8) w }

/-- The instruction the decoder reads from a table word of `nbits` bits. -/
def decodeTableWord (nbits w : Nat) : Option Instr :=
  (decodeRequest (requestOfTableWord nbits w)).toOption

end Sys2Proof
end

