-- ==== Sys2Proof/Machine/State.lean ====
section
/-! DEFINITION. Everything the spec gives CORE to hold, as plain data (10_state.md R20 to R32;
20_memory.md R50 to R52), the reasons a step can stop, and the state after reset. -/

namespace Sys2Proof.Machine

/-- Format MOVE: the ternary output of the decoder (30_encoding.md R74; 10_state.md R32). -/
inductive Move where
  | none
  | inc
  | dec
deriving DecidableEq, Repr

/-- The signals that exist inside one tick (10_state.md R32) and the sampled input word
(46_tick_dispatcher.md R181). State holds them so that each operation of a tick is a transition of
its own; they are dead between ticks (DESIGN CHOICE, unsafe: notes/assumptions/2.md). -/
structure Signals where
  /-- `IN`, set by SAMPLE (46_tick_dispatcher.md R181). -/
  inWord : InWord
  /-- `t`, the copy of `tick` made by SAMPLE (10_state.md R32). -/
  t : Byte
  /-- `cur_phase[c]`, set by PHASE (10_state.md R32). -/
  curPhase : PerColour PhaseCode
  /-- `diff[c]`, set by QDEC (10_state.md R32). -/
  diff : PerColour (BitVec 2)
  /-- `move[c]`, set by QDEC (10_state.md R32). -/
  move : PerColour Move
  /-- `raw_change`, set by DEBOUNCE (10_state.md R32). -/
  rawChange : Lanes
  /-- `accepted`, set by DEBOUNCE (10_state.md R32). -/
  accepted : Lanes
  /-- `pressed`, set by PRESS (10_state.md R32). -/
  pressed : Lanes
  /-- `held`, set by LONGPRESS (10_state.md R32). -/
  held : Bool
  /-- `fire`, set by LONGPRESS (10_state.md R32). -/
  fire : Bool
  /-- `level[k]`, set by DECOMP (10_state.md R32). -/
  level : PerOut Byte
  /-- `pwm[k]`, set by GAMMA (10_state.md R32). -/
  pwm : PerOut Byte
  /-- `x[k]`, set by DITHER (10_state.md R32). -/
  x : PerOut (BitVec 1)
deriving DecidableEq, Repr

/-- What the signal fields hold while no signal exists, that is between ticks (DESIGN CHOICE, unsafe:
notes/assumptions/2.md). -/
def Signals.dead : Signals where
  inWord := 0#9
  t := 0#8
  curPhase := .all 0#2
  diff := .all 0#2
  move := .all .none
  rawChange := 0#3
  accepted := 0#3
  pressed := 0#3
  held := false
  fire := false
  level := .all 0#8
  pwm := .all 0#8
  x := .all 0#1

/-- The electrical levels at the nine input ports, true for high (20_memory.md R50). -/
structure Ports where
  /-- `enc_a[c]`: phase A of encoder `c`. -/
  encA : PerColour Bool
  /-- `enc_b[c]`: phase B of encoder `c`. -/
  encB : PerColour Bool
  /-- `btn[c]`: the raw level of button `c`; low is pressed. -/
  btn : PerColour Bool
deriving DecidableEq, Repr

/-- The idle levels: every input high (30_encoding.md R71). -/
def Ports.idle : Ports where
  encA := .all true
  encB := .all true
  btn := .all true

/-- The state of CORE. The first twelve fields are its registers, all of them (10_state.md R20); `sig`
are the signals inside a tick (R32); `ports` and `stimulus` are the environment's side of the boundary
(20_memory.md R50, R52; 30_encoding.md R89). -/
structure State where
  /-- `last_phase[c]`: the phase code of the previous tick (10_state.md R21). -/
  lastPhase : PerColour PhaseCode
  /-- `target[c]`: the Target Level (10_state.md R22). -/
  target : PerColour Byte
  /-- `current[c]`: the Current Level (10_state.md R23). -/
  current : PerColour Byte
  /-- `ts`: the debounced buttons, 1 = held (10_state.md R24). -/
  ts : Lanes
  /-- `ct0`: the low bits of the lane counters (10_state.md R25). -/
  ct0 : Lanes
  /-- `ct1`: the high bits of the lane counters (10_state.md R26). -/
  ct1 : Lanes
  /-- `rpt`: the long-press countdown (10_state.md R27). -/
  rpt : BitVec 16
  /-- `tick`: the tick counter (10_state.md R28). -/
  tick : Byte
  /-- `duty[k]`: the outputs (10_state.md R29; 20_memory.md R51). -/
  duty : PerOut Byte
  /-- The signals inside a tick (10_state.md R32). -/
  sig : Signals
  /-- The levels at the input ports (20_memory.md R50). -/
  ports : Ports
  /-- What the environment will present, the next request first; the stimulus of 30_encoding.md R89
  (the model's own field; DESIGN CHOICE: notes/assumptions/3.md). -/
  stimulus : List Request
deriving DecidableEq, Repr

/-- Why a step faults. -/
inductive Fault where
  /-- F1 of 60_exceptions.md R201, raised by GAMMA `k` when `level[k] > 40`, with `k` and `level[k]`.
  The hardware raises nothing; the spec tells the model to stop there, since an index above 40 has no
  table entry. Safe: no claim can be proved about what follows. -/
  | gammaIndexOutOfRange (k : OutChannel) (level : Byte)
deriving DecidableEq, Repr

/-- Why a step is refused. -/
inductive Refusal where
  /-- Raised by an arm of `exec` whose instruction has no meaning; no arm raises it. Safe. -/
  | notModelled (mnemonic : String)
  /-- Raised by `step` on a word that stands for no instruction (30_encoding.md R86: a model that
  represents operations as data refuses the reserved patterns). Safe: the hardware never holds such a
  word. -/
  | undecodable (reason : DecodeError)
deriving DecidableEq, Repr

/-- The machine right after RESET: the values of 10_state.md R38. `rpt` and `duty` are the source's;
the other registers are zero by the spec's own choice (notes/assumptions/8.md). The ports are idle and
nothing is requested (DESIGN CHOICE: notes/assumptions/3.md, notes/assumptions/4.md). -/
def State.reset : State where
  lastPhase := .all 0#2
  target := .all 0#8
  current := .all 0#8
  ts := 0#3
  ct0 := 0#3
  ct1 := 0#3
  rpt := 750#16
  tick := 0#8
  duty := .all 0#8
  sig := Signals.dead
  ports := Ports.idle
  stimulus := []

/-- The outcome of one step of CORE. -/
abbrev Result := Host.Outcome State Fault Refusal

end Sys2Proof.Machine
end

