-- ==== Sys2Proof/Machine/Operands.lean ====
section
/-! DEFINITION. Operand assembly, every form the spec has and no other (30_encoding.md R82): what an
operation reads out of the input word, a phase code, a lane vector, a gamma result or the tick value. -/

namespace Sys2Proof.Machine

/-- `IN.a[c] = IN[2c]` (30_encoding.md R70). -/
def inA (w : InWord) (c : Colour) : Bool := w.getLsbD (2 * c.index)

/-- `IN.b[c] = IN[2c+1]` (30_encoding.md R70). -/
def inB (w : InWord) (c : Colour) : Bool := w.getLsbD (2 * c.index + 1)

/-- `IN.p[c] = IN[6+c]` (30_encoding.md R70). -/
def inP (w : InWord) (c : Colour) : Bool := w.getLsbD (6 + c.index)

/-- The levels that an input word stands for (30_encoding.md R70). -/
def portsOfWord (w : InWord) : Ports where
  encA := ⟨inA w .red, inA w .green, inA w .blue⟩
  encB := ⟨inB w .red, inB w .green, inB w .blue⟩
  btn := ⟨inP w .red, inP w .green, inP w .blue⟩

/-- The word that the levels at the ports form, bit 8 first (30_encoding.md R70). -/
def wordOfPorts (p : Ports) : InWord :=
  BitVec.ofBool p.btn.blue ++ BitVec.ofBool p.btn.green ++ BitVec.ofBool p.btn.red ++
  BitVec.ofBool p.encB.blue ++ BitVec.ofBool p.encA.blue ++
  BitVec.ofBool p.encB.green ++ BitVec.ofBool p.encA.green ++
  BitVec.ofBool p.encB.red ++ BitVec.ofBool p.encA.red

/-- Format PHASE: `{A, A ^ B}` (30_encoding.md R72). -/
def phaseCode (a b : Bool) : PhaseCode := BitVec.ofBool a ++ BitVec.ofBool (a ^^ b)

/-- Format MOVE: `(last_phase - cur_phase) mod 4` (30_encoding.md R74). -/
def phaseDiff (last cur : PhaseCode) : BitVec 2 := last - cur

/-- Format LANES: `raw = {IN.p[2], IN.p[1], IN.p[0]}`, 1 = pin high = released (30_encoding.md R75). -/
def rawLanes (w : InWord) : Lanes := w.extractLsb' 6 3

/-- The pressed levels `~_3 raw`, 1 = pressed (30_encoding.md R75; 42_button_debounce.md R122). -/
def pressedLevels (w : InWord) : Lanes := ~~~ (rawLanes w)

/-- Lane `c` of a vector (30_encoding.md R75). -/
def lane (v : Lanes) (c : Colour) : Bool := v.getLsbD c.index

/-- The gamma index: the level as it is, when it has an entry (45_gamma_dither_pwm.md R167;
20_memory.md R56). -/
def gammaIndex (level : Byte) : Option (Fin 41) :=
  if h : level.toNat < 41 then some ⟨level.toNat, h⟩ else none

/-- Format PWM: the quotient `pwm[7:2]` (30_encoding.md R76). -/
def pwmQuotient (pwm : Byte) : Byte := pwm >>> 2

/-- Format PWM: the dither index `pwm[1:0]` (30_encoding.md R76). -/
def ditherIndex (pwm : Byte) : Fin 4 := (pwm.extractLsb' 0 2).toFin

/-- The dither bit number `t mod 8 = t[2:0]` (30_encoding.md R77, R82). -/
def ditherBitNumber (t : Byte) : Nat := (t.extractLsb' 0 3).toNat

/-- Format PATTERN: `(pattern >> n) & 1` (30_encoding.md R77). -/
def patternBit (pattern : Byte) (n : Nat) : BitVec 1 := (pattern >>> n).setWidth 1

/-- The fade condition `t mod 32 = 0`, that is `t[4:0] = 0` (46_tick_dispatcher.md R184). -/
def fadeCondition (t : Byte) : Bool := t.extractLsb' 0 5 == 0#5

/-- The fader's difference, on zero-extended 16-bit copies, as a signed number
(43_color_fader.md R146). -/
def fadeDifference (target current : Byte) : Int :=
  (target.setWidth 16 - current.setWidth 16).toInt

end Sys2Proof.Machine
end

