-- ==== Sys2Proof/Machine/Flags.lean ====
section
/-! DEFINITION. The signals CORE computes in place of flags (10_state.md R32), and the values the
registers take from them. -/

namespace Sys2Proof.Machine

/-- The move of a difference: bit 0 says that a move happened, bit 1 gives its direction
(30_encoding.md R74; 40_quadrature_decoder.md R102). -/
def moveOfDiff (diff : BitVec 2) : Move :=
  match diff.getLsbD 0, diff.getLsbD 1 with
  | false, _ => .none
  | true, false => .inc
  | true, true => .dec

/-- TSTEP on one target: plus or minus 1 on integers, clamped to 0..40 before the store
(41_bounded_counter.md R111). -/
def steppedTarget (move : Move) (target : Byte) : Byte :=
  match move with
  | .inc => BitVec.ofNat 8 (min (target.toNat + 1) Config.encMax)
  | .dec => BitVec.ofInt 8 (max ((target.toNat : Int) - 1) 0)
  | .none => target

/-- TTOGGLE on one target: 40 when it was 0, else 0 (41_bounded_counter.md R112). -/
def toggledTarget (target : Byte) : Byte :=
  if target = 0#8 then BitVec.ofNat 8 Config.encMax else 0#8

/-- `raw_change = ts ^ (~_3 raw)` (42_button_debounce.md R122). -/
def rawChange (ts pressedLevel : Lanes) : Lanes := ts ^^^ pressedLevel

/-- `ct0 <- ~_3 (ct0 & raw_change)` (42_button_debounce.md R123). -/
def newCt0 (ct0 rawChange : Lanes) : Lanes := ~~~ (ct0 &&& rawChange)

/-- `ct1 <- ct0 ^ ct1`, with the new `ct0` (42_button_debounce.md R124; the order is the spec's
decision D7: notes/assumptions/10.md). -/
def newCt1 (newCt0 ct1 : Lanes) : Lanes := newCt0 ^^^ ct1

/-- `accepted = raw_change & ct0 & ct1`, with the new `ct0` and the new `ct1`
(42_button_debounce.md R125). -/
def acceptedLanes (rawChange newCt0 newCt1 : Lanes) : Lanes := rawChange &&& newCt0 &&& newCt1

/-- `ts <- ts ^ accepted` (42_button_debounce.md R126). -/
def newTs (ts accepted : Lanes) : Lanes := ts ^^^ accepted

/-- `pressed = ts & accepted`, with the new `ts` (42_button_debounce.md R132). -/
def pressedLanes (newTs accepted : Lanes) : Lanes := newTs &&& accepted

/-- `held = (ts != 0)` (42_button_debounce.md R135). -/
def anyHeld (ts : Lanes) : Bool := ts != 0#3

/-- The countdown: reloaded with 750 when nothing is held, else down by one modulo 2^16
(42_button_debounce.md R136, R137). -/
def newRpt (held : Bool) (rpt : BitVec 16) : BitVec 16 :=
  if held then rpt - 1#16 else BitVec.ofNat 16 Config.longpressStart

/-- `fire`: a held tick whose new countdown is 0 (42_button_debounce.md R137). -/
def longPressFires (held : Bool) (newRpt : BitVec 16) : Bool := held && newRpt == 0#16

/-- FADE on one level: one unit in the direction of the difference's sign, computed on integers
(43_color_fader.md R146). -/
def fadedLevel (target current : Byte) : Byte :=
  BitVec.ofInt 8 ((current.toNat : Int) + (fadeDifference target current).sign)

/-- `min(current[0], current[1], current[2])`, unsigned (44_rgbw_decomposer.md R156). -/
def commonMinimum (current : PerColour Byte) : Byte :=
  BitVec.ofNat 8 (min current.red.toNat (min current.green.toNat current.blue.toNat))

/-- The four levels of DECOMP: each residual over the common minimum, and the minimum as white
(44_rgbw_decomposer.md R156). -/
def decomposed (current : PerColour Byte) : PerOut Byte :=
  let w := commonMinimum current
  ⟨current.red - w, current.green - w, current.blue - w, w⟩

/-- `(pwm >> 2) + x` (45_gamma_dither_pwm.md R170). -/
def dutyValue (pwm : Byte) (x : BitVec 1) : Byte := pwmQuotient pwm + x.setWidth 8

/-- `(t + 1) mod 256` (46_tick_dispatcher.md R185). -/
def nextTick (t : Byte) : Byte := t + 1#8

end Sys2Proof.Machine
end

