-- ==== Sys2Proof/Machine/Ops.lean ====
section
/-! DEFINITION. The named operations over the registers, the boundary and the two tables; the entry
into a tick and the return from it (60_exceptions.md R207, R209); the model's one fault (R201). CORE
has no data memory (20_memory.md R54), so no operation here reads or writes a byte at an address. -/

namespace Sys2Proof.Machine

/-- One operation after another: a fault or a refusal ends the run (60_exceptions.md R201). -/
def andThen (r : Result) (f : State → Result) : Result :=
  match r with
  | .next s => f s
  | .fault e => .fault e
  | .refused e => .refused e

/-- `last_phase[c] <- v`. -/
def setLastPhase (c : Colour) (v : PhaseCode) (s : State) : State :=
  { s with lastPhase := s.lastPhase.set c v }

/-- `target[c] <- v`. -/
def setTarget (c : Colour) (v : Byte) (s : State) : State :=
  { s with target := s.target.set c v }

/-- `current[c] <- v`. -/
def setCurrent (c : Colour) (v : Byte) (s : State) : State :=
  { s with current := s.current.set c v }

/-- `duty[k] <- v`. -/
def setDuty (k : OutChannel) (v : Byte) (s : State) : State :=
  { s with duty := s.duty.set k v }

/-- A write of tick-local signals, which touches no register (10_state.md R32). -/
def setSignals (g : Signals) (s : State) : State := { s with sig := g }

/-- The environment brings the nine input ports to the levels of a word (20_memory.md R50). -/
def presentWord (w : InWord) (s : State) : State := { s with ports := portsOfWord w }

/-- Tick entry. Nothing is saved; the nine inputs and the counter are latched (60_exceptions.md R207;
46_tick_dispatcher.md R181). -/
def tickEntry (s : State) : State :=
  setSignals { s.sig with inWord := wordOfPorts s.ports, t := s.tick } s

/-- Tick return. Nothing is restored (60_exceptions.md R209); the signals are dead at the end of the
tick (10_state.md R32). -/
def tickReturn (s : State) : State := setSignals Signals.dead s

/-- The registers after RESET, from any state: the values of 46_tick_dispatcher.md R186. No tick is in
progress then (60_exceptions.md R205), so no signal exists; the ports and what the environment will
present are the environment's and stay. -/
def resetRegisters (s : State) : State :=
  { State.reset with ports := s.ports, stimulus := s.stimulus }

/-- The model's fault F1, with `k` and `level[k]`; it ends the run and no later tick clears it
(60_exceptions.md R201). -/
def raiseGammaIndexOutOfRange (k : OutChannel) (level : Byte) : Result :=
  .fault (.gammaIndexOutOfRange k level)

/-- `MemRead(GAMMA, i)` where the index has an entry (45_gamma_dither_pwm.md R167). -/
def readGamma (T : Config.Tables) (level : Byte) : Option Byte :=
  (gammaIndex level).map T.gamma

/-- `MemRead(DITHER, pwm[1:0])` (45_gamma_dither_pwm.md R168). -/
def readDither (T : Config.Tables) (pwm : Byte) : Byte := T.dither (ditherIndex pwm)

/-- The request the environment makes at this instant, if it makes one (20_memory.md R52): the first of
the stimulus, unless it applies no `rst` and presents no word. -/
def pendingRequest (s : State) : Option Request :=
  match s.stimulus with
  | [] => none
  | q :: _ => if q.rst = false ∧ q.word = [] then none else some q

/-- The environment moves on: each request is served once, in order (60_exceptions.md R206). -/
def popRequest (s : State) : State := { s with stimulus := s.stimulus.tail }

end Sys2Proof.Machine
end

