-- ==== Sys2Proof/Machine/BoundedCounter.lean ====
section
/-! DEFINITION. The bounded counter that holds the target colour: TSTEP, TTOGGLE and TCLEAR
(41_bounded_counter.md). -/

namespace Sys2Proof.Machine

/-- `target[c]` by the move, clamped to 0..40 (41_bounded_counter.md R111). -/
def tstepOp (c : Colour) (s : State) : State :=
  setTarget c (steppedTarget (s.sig.move.get c) (s.target.get c)) s

/-- `target[c]` toggles on a press edge of button `c` (41_bounded_counter.md R112). -/
def ttoggleOp (c : Colour) (s : State) : State :=
  if lane s.sig.pressed c then setTarget c (toggledTarget (s.target.get c)) s else s

/-- All three targets become 0 when the long press fires (41_bounded_counter.md R113). -/
def tclearOp (s : State) : State :=
  if s.sig.fire then { s with target := .all 0#8 } else s

/-- TSTEP c (41_bounded_counter.md R111). -/
def execTstep (c : Colour) (s : State) : Result := .next (tstepOp c s)

/-- TTOGGLE c (41_bounded_counter.md R112). -/
def execTtoggle (c : Colour) (s : State) : Result := .next (ttoggleOp c s)

/-- TCLEAR (41_bounded_counter.md R113). -/
def execTclear (s : State) : Result := .next (tclearOp s)

end Sys2Proof.Machine
end

