-- ==== Sys2Proof/Machine/ButtonDebounce.lean ====
section
/-! DEFINITION. The button debouncer and long-press detector: DEBOUNCE, PRESS and LONGPRESS
(42_button_debounce.md). -/

namespace Sys2Proof.Machine

/-- One update of `ct0`, `ct1` and `ts`, each line using the values of the lines before it
(42_button_debounce.md R121). -/
def debounceOp (s : State) : State :=
  let change := rawChange s.ts (pressedLevels s.sig.inWord)
  let ct0 := newCt0 s.ct0 change
  let ct1 := newCt1 ct0 s.ct1
  let acc := acceptedLanes change ct0 ct1
  { s with
    ct0 := ct0
    ct1 := ct1
    ts := newTs s.ts acc
    sig := { s.sig with rawChange := change, accepted := acc } }

/-- `pressed = ts & accepted` (42_button_debounce.md R132). -/
def pressOp (s : State) : State :=
  setSignals { s.sig with pressed := pressedLanes s.ts s.sig.accepted } s

/-- `held`, the countdown and `fire` (42_button_debounce.md R135). -/
def longpressOp (s : State) : State :=
  let held := anyHeld s.ts
  let rpt := newRpt held s.rpt
  { s with rpt := rpt, sig := { s.sig with held := held, fire := longPressFires held rpt } }

/-- DEBOUNCE (42_button_debounce.md R121). -/
def execDebounce (s : State) : Result := .next (debounceOp s)

/-- PRESS (42_button_debounce.md R132). -/
def execPress (s : State) : Result := .next (pressOp s)

/-- LONGPRESS (42_button_debounce.md R135). -/
def execLongpress (s : State) : Result := .next (longpressOp s)

end Sys2Proof.Machine
end

