-- ==== Sys2Proof/Machine/ColorFader.lean ====
section
/-! DEFINITION. The colour fader, a slew-rate limiter: FADE (43_color_fader.md). -/

namespace Sys2Proof.Machine

/-- In a fade tick `current[c]` moves one unit toward `target[c]`; in the other 31 ticks of 32 it is
not written (43_color_fader.md R146, R151; 46_tick_dispatcher.md R184). -/
def fadeOp (c : Colour) (s : State) : State :=
  if fadeCondition s.sig.t then setCurrent c (fadedLevel (s.target.get c) (s.current.get c)) s else s

/-- FADE c (43_color_fader.md R146). -/
def execFade (c : Colour) (s : State) : Result := .next (fadeOp c s)

end Sys2Proof.Machine
end

