-- ==== Sys2Proof/Machine/GammaDitherPwm.lean ====
section
/-! DEFINITION. The gamma-corrected temporal-dither PWM encoder: GAMMA, DITHER and DUTY
(45_gamma_dither_pwm.md). Each operation takes the tables as an argument (00_scope.md R10); the
instruction's meaning is the operation at the hardware's own tables. -/

namespace Sys2Proof.Machine

/-- `pwm[k] = GAMMA[level[k]]`, or the fault F1 where the index has no entry
(45_gamma_dither_pwm.md R167; 60_exceptions.md R201). -/
def gammaOp (T : Config.Tables) (k : OutChannel) (s : State) : Result :=
  match readGamma T (s.sig.level.get k) with
  | some pwm => .next (setSignals { s.sig with pwm := s.sig.pwm.set k pwm } s)
  | none => raiseGammaIndexOutOfRange k (s.sig.level.get k)

/-- `x[k]` is bit `t mod 8` of `DITHER[pwm[k] & 3]` (45_gamma_dither_pwm.md R168). -/
def ditherOp (T : Config.Tables) (k : OutChannel) (s : State) : State :=
  let pattern := readDither T (s.sig.pwm.get k)
  setSignals { s.sig with x := s.sig.x.set k (patternBit pattern (ditherBitNumber s.sig.t)) } s

/-- `duty[k] <- (pwm[k] >> 2) + x[k]` (45_gamma_dither_pwm.md R170). -/
def dutyOp (k : OutChannel) (s : State) : State :=
  setDuty k (dutyValue (s.sig.pwm.get k) (s.sig.x.get k)) s

/-- GAMMA k (45_gamma_dither_pwm.md R167). -/
def execGamma (k : OutChannel) (s : State) : Result := gammaOp Config.tables k s

/-- DITHER k (45_gamma_dither_pwm.md R168). -/
def execDither (k : OutChannel) (s : State) : Result := .next (ditherOp Config.tables k s)

/-- DUTY k (45_gamma_dither_pwm.md R170). -/
def execDuty (k : OutChannel) (s : State) : Result := .next (dutyOp k s)

end Sys2Proof.Machine
end

