-- ==== Sys2Proof/Machine/QuadratureDecoder.lean ====
section
/-! DEFINITION. The quadrature decoder: PHASE and QDEC (40_quadrature_decoder.md). -/

namespace Sys2Proof.Machine

/-- `cur_phase[c] = {IN.a[c], IN.a[c] ^ IN.b[c]}` (40_quadrature_decoder.md R101). -/
def phaseOp (c : Colour) (s : State) : State :=
  setSignals
    { s.sig with curPhase := s.sig.curPhase.set c (phaseCode (inA s.sig.inWord c) (inB s.sig.inWord c)) } s

/-- `diff[c]`, `move[c]`, and the store of `cur_phase[c]` into `last_phase[c]` whatever the move
(40_quadrature_decoder.md R102, R103). -/
def qdecOp (c : Colour) (s : State) : State :=
  let cur := s.sig.curPhase.get c
  let d := phaseDiff (s.lastPhase.get c) cur
  setLastPhase c cur
    (setSignals { s.sig with diff := s.sig.diff.set c d, move := s.sig.move.set c (moveOfDiff d) } s)

/-- PHASE c (40_quadrature_decoder.md R101). -/
def execPhase (c : Colour) (s : State) : Result := .next (phaseOp c s)

/-- QDEC c (40_quadrature_decoder.md R102). -/
def execQdec (c : Colour) (s : State) : Result := .next (qdecOp c s)

end Sys2Proof.Machine
end

