-- ==== Sys2Proof/Machine/RgbwDecomposer.lean ====
section
/-! DEFINITION. The RGB to RGBW decomposer: DECOMP (44_rgbw_decomposer.md). -/

namespace Sys2Proof.Machine

/-- The four levels from the three Current Levels; no register is written
(44_rgbw_decomposer.md R155, R156). -/
def decompOp (s : State) : State := setSignals { s.sig with level := decomposed s.current } s

/-- DECOMP (44_rgbw_decomposer.md R156). -/
def execDecomp (s : State) : Result := .next (decompOp s)

end Sys2Proof.Machine
end

