-- ==== Sys2Proof/Machine/TickDispatcher.lean ====
section
/-! DEFINITION. The tick dispatcher: SAMPLE, TICKINC, and the events TICK and RESET
(46_tick_dispatcher.md). -/

namespace Sys2Proof.Machine

/-- `tick <- (t + 1) mod 256` (46_tick_dispatcher.md R185). -/
def tickincOp (s : State) : State := { s with tick := nextTick s.sig.t }

/-- Three slots of one encoder: PHASE, QDEC, TSTEP (40_quadrature_decoder.md R100). -/
def encoderChannel (c : Colour) (s : State) : State := tstepOp c (qdecOp c (phaseOp c s))

/-- Slots 1 to 9 of 46_tick_dispatcher.md R182. -/
def encoderStage (s : State) : State :=
  encoderChannel .blue (encoderChannel .green (encoderChannel .red s))

/-- Slots 10 to 16 of 46_tick_dispatcher.md R182. -/
def buttonStage (s : State) : State :=
  tclearOp (longpressOp
    (ttoggleOp .blue (ttoggleOp .green (ttoggleOp .red (pressOp (debounceOp s))))))

/-- Slots 17 to 19 of 46_tick_dispatcher.md R182; each FADE reads the fade condition of R184. -/
def faderStage (s : State) : State := fadeOp .blue (fadeOp .green (fadeOp .red s))

/-- Slots 0 to 20 of 46_tick_dispatcher.md R182, none of which can fault. -/
def levelStages (s : State) : State :=
  decompOp (faderStage (buttonStage (encoderStage (tickEntry s))))

/-- Three slots of one output channel: GAMMA, DITHER, DUTY (45_gamma_dither_pwm.md R165). -/
def pwmChannel (T : Config.Tables) (k : OutChannel) (s : State) : Result :=
  andThen (gammaOp T k s) fun u => .next (dutyOp k (ditherOp T k u))

/-- Slots 21 to 32 of 46_tick_dispatcher.md R182. -/
def pwmStage (T : Config.Tables) (s : State) : Result :=
  andThen (pwmChannel T .red s) fun s1 =>
  andThen (pwmChannel T .green s1) fun s2 =>
  andThen (pwmChannel T .blue s2) fun s3 =>
  pwmChannel T .white s3

/-- One whole tick on the input word `w`: the 34 slots of 46_tick_dispatcher.md R182 in their order, as
one transition (R187), for given tables. -/
def tickOp (T : Config.Tables) (w : InWord) (s : State) : Result :=
  andThen (pwmStage T (levelStages (presentWord w s))) fun u => .next (tickReturn (tickincOp u))

/-- SAMPLE (46_tick_dispatcher.md R181). -/
def execSample (s : State) : Result := .next (tickEntry s)

/-- TICKINC (46_tick_dispatcher.md R185). -/
def execTickinc (s : State) : Result := .next (tickincOp s)

/-- TICK, the event on `tick_req` with the input word `w` (46_tick_dispatcher.md R183). -/
def execTick (w : InWord) (s : State) : Result := tickOp Config.tables w s

/-- RESET, the event on `rst` (46_tick_dispatcher.md R186). -/
def execReset (s : State) : Result := .next (resetRegisters s)

end Sys2Proof.Machine
end

