-- ==== Sys2Proof/Machine/Dispatch.lean ====
section
/-! DEFINITION. The dispatch: one arm per row of spec/opcode_table.json (30_encoding.md R85, R83). -/

namespace Sys2Proof.Machine

/-- The meaning of every instruction, each row's rule as its definition names it. -/
def exec (i : Instr) (s : State) : Host.Outcome State Fault Refusal :=
  match i with
  | .sample => Sys2Proof.Machine.execSample s
  | .phase c => Sys2Proof.Machine.execPhase c s
  | .qdec c => Sys2Proof.Machine.execQdec c s
  | .tstep c => Sys2Proof.Machine.execTstep c s
  | .debounce => Sys2Proof.Machine.execDebounce s
  | .press => Sys2Proof.Machine.execPress s
  | .ttoggle c => Sys2Proof.Machine.execTtoggle c s
  | .longpress => Sys2Proof.Machine.execLongpress s
  | .tclear => Sys2Proof.Machine.execTclear s
  | .fade c => Sys2Proof.Machine.execFade c s
  | .decomp => Sys2Proof.Machine.execDecomp s
  | .gamma k => Sys2Proof.Machine.execGamma k s
  | .dither k => Sys2Proof.Machine.execDither k s
  | .duty k => Sys2Proof.Machine.execDuty k s
  | .tickinc => Sys2Proof.Machine.execTickinc s
  | .tick w => Sys2Proof.Machine.execTick w s
  | .reset => Sys2Proof.Machine.execReset s

end Sys2Proof.Machine
end

