-- ==== Sys2Proof/Machine/Step.lean ====
section
/-! DEFINITION. One step: the environment's next request is decoded and run; with no request CORE does
nothing (60_exceptions.md R209, R218). -/

namespace Sys2Proof.Machine

/-- One step of CORE: exactly one instruction per request, in order (20_memory.md R52;
60_exceptions.md R206). A word that stands for no instruction is refused (30_encoding.md R86). How a
request comes to be pending: notes/assumptions/3.md. -/
def step (s : State) : Host.Outcome State Fault Refusal :=
  match pendingRequest s with
  | none => .next (popRequest s)
  | some q =>
    match decodeRequest q with
    | .ok i => exec i (popRequest s)
    | .error e => .refused (.undecodable e)

/-- `s` with the table word `w` of `nbits` bits as the request that `step` serves next. -/
def State.withFetchWord (s : State) (nbits w : Nat) : State :=
  { s with stimulus := requestOfTableWord nbits w :: s.stimulus.tail }

end Sys2Proof.Machine
end

