-- ==== Sys2Proof/Machine/TickPseudocode.lean ====
section
/-! DEFINITION. The whole tick in one piece: the pseudocode of 46_tick_dispatcher.md R183 on whole
numbers, written apart from the operations, so that TICK can be compared with it. `exec` does not use
it. -/

namespace Sys2Proof.Machine

/-- R183, slots 1 to 9: `diff` of encoder `c` on the word `w`. -/
def pseudoDiff (w : InWord) (s : State) (c : Colour) : Nat :=
  let cur := 2 * (inA w c).toNat + (inA w c ^^ inB w c).toNat
  ((s.lastPhase.get c).toNat + 4 - cur) % 4

/-- R183, slots 1 to 9: `target[c]` after the encoders. -/
def pseudoStepped (w : InWord) (s : State) (c : Colour) : Nat :=
  let n := (s.target.get c).toNat
  if pseudoDiff w s c = 1 then min (n + 1) 40 else if pseudoDiff w s c = 3 then n - 1 else n

/-- R183, slot 10: `raw_change`. -/
def pseudoRawChange (w : InWord) (s : State) : Lanes := s.ts ^^^ ~~~ (w.extractLsb' 6 3)

/-- R183, slot 10: the new `ct0`. -/
def pseudoCt0 (w : InWord) (s : State) : Lanes := ~~~ (s.ct0 &&& pseudoRawChange w s)

/-- R183, slot 10: the new `ct1`. -/
def pseudoCt1 (w : InWord) (s : State) : Lanes := pseudoCt0 w s ^^^ s.ct1

/-- R183, slot 10: `accepted`. -/
def pseudoAccepted (w : InWord) (s : State) : Lanes :=
  pseudoRawChange w s &&& pseudoCt0 w s &&& pseudoCt1 w s

/-- R183, slot 10: the new `ts`. -/
def pseudoTs (w : InWord) (s : State) : Lanes := s.ts ^^^ pseudoAccepted w s

/-- R183, slots 11 to 14: `target[c]` after the press edges. -/
def pseudoToggled (w : InWord) (s : State) (c : Colour) : Nat :=
  if (pseudoTs w s &&& pseudoAccepted w s).getLsbD c.index then
    (if pseudoStepped w s c = 0 then 40 else 0)
  else pseudoStepped w s c

/-- R183, slot 15: the new `rpt`. -/
def pseudoRpt (w : InWord) (s : State) : Nat :=
  if pseudoTs w s = 0#3 then 750 else (s.rpt.toNat + 65535) % 65536

/-- R183, slot 16: `target[c]` after the long press. -/
def pseudoTarget (w : InWord) (s : State) (c : Colour) : Nat :=
  if pseudoTs w s ≠ 0#3 ∧ pseudoRpt w s = 0 then 0 else pseudoToggled w s c

/-- R183, slots 17 to 19: `current[c]` after the fader. -/
def pseudoCurrent (w : InWord) (s : State) (c : Colour) : Nat :=
  let n := (s.current.get c).toNat
  if s.tick.toNat % 32 = 0 then ((n : Int) + Int.sign (pseudoTarget w s c - n)).toNat else n

/-- R183, slot 20: `level[k]`. -/
def pseudoLevel (w : InWord) (s : State) (k : OutChannel) : Nat :=
  let m := min (pseudoCurrent w s .red) (min (pseudoCurrent w s .green) (pseudoCurrent w s .blue))
  match k with
  | .red => pseudoCurrent w s .red - m
  | .green => pseudoCurrent w s .green - m
  | .blue => pseudoCurrent w s .blue - m
  | .white => m

/-- R183, slots 21 to 32: the duty value of a level with a table entry, at the tick value `t`. -/
def pseudoDuty (T : Config.Tables) (level t : Nat) : Nat :=
  let pwm := (T.gamma (Fin.ofNat 41 level)).toNat
  pwm / 4 + (T.dither (Fin.ofNat 4 pwm)).toNat / 2 ^ (t % 8) % 2

/-- R183: the state after the tick, when every level has a table entry. -/
def pseudoNext (T : Config.Tables) (w : InWord) (s : State) : State :=
  let cur (c : Colour) : PhaseCode := BitVec.ofNat 2 (2 * (inA w c).toNat + (inA w c ^^ inB w c).toNat)
  let tgt (c : Colour) : Byte := BitVec.ofNat 8 (pseudoTarget w s c)
  let lvl (c : Colour) : Byte := BitVec.ofNat 8 (pseudoCurrent w s c)
  let dty (k : OutChannel) : Byte := BitVec.ofNat 8 (pseudoDuty T (pseudoLevel w s k) s.tick.toNat)
  { lastPhase := ⟨cur .red, cur .green, cur .blue⟩
    target := ⟨tgt .red, tgt .green, tgt .blue⟩
    current := ⟨lvl .red, lvl .green, lvl .blue⟩
    ts := pseudoTs w s
    ct0 := pseudoCt0 w s
    ct1 := pseudoCt1 w s
    rpt := BitVec.ofNat 16 (pseudoRpt w s)
    tick := BitVec.ofNat 8 ((s.tick.toNat + 1) % 256)
    duty := ⟨dty .red, dty .green, dty .blue, dty .white⟩
    sig := Signals.dead
    ports := portsOfWord w
    stimulus := s.stimulus }

/-- R183: the whole tick. The first channel in the order R, G, B, W whose level has no table entry
raises the fault (45_gamma_dither_pwm.md R167). -/
def tickPseudocode (T : Config.Tables) (w : InWord) (s : State) : Result :=
  match [OutChannel.red, .green, .blue, .white].find? (fun k => 40 < pseudoLevel w s k) with
  | some k => raiseGammaIndexOutOfRange k (BitVec.ofNat 8 (pseudoLevel w s k))
  | none => .next (pseudoNext T w s)

end Sys2Proof.Machine
end

