-- ==== Sys2Proof/Safety.lean ====
section
/-! DEFINITION. What counts as a safe state and a safe run of CORE (10_state.md R39 to R41;
60_exceptions.md R201), and the runs that statements speak of. -/

namespace Sys2Proof.Machine

/-- The ranges of 10_state.md R39 and R40: no target and no current level above 40. -/
def State.LevelsInRange (s : State) : Prop :=
  ∀ c, (s.target.get c).toNat ≤ 40 ∧ (s.current.get c).toNat ≤ 40

/-- The invariant of CORE: the register ranges of 10_state.md R39 to R41, and the bound of
44_rgbw_decomposer.md R158 on the signal that GAMMA uses as its index. -/
def State.InRange (s : State) : Prop :=
  s.LevelsInRange ∧ (∀ k, (s.sig.level.get k).toNat ≤ 40) ∧ (∀ k, (s.duty.get k).toNat ≤ 64)

/-- Two states hold the same in every register of 10_state.md R20; signals, ports and stimulus may
differ. -/
def State.SameRegisters (s u : State) : Prop :=
  s.lastPhase = u.lastPhase ∧ s.target = u.target ∧ s.current = u.current ∧ s.ts = u.ts ∧
  s.ct0 = u.ct0 ∧ s.ct1 = u.ct1 ∧ s.rpt = u.rpt ∧ s.tick = u.tick ∧ s.duty = u.duty

/-- The idle word: no button pressed, every encoder contact open (30_encoding.md R71). -/
abbrev idleWord : InWord := 0x1FF#9

/-- Every encoder was last seen at the idle pair, no button is held and every lane is at rest, as
after an idle tick (42_button_debounce.md R128; 70_reset_and_hazards.md R233). -/
def State.AtRest (s : State) : Prop :=
  s.lastPhase = .all 2#2 ∧ s.ts = 0#3 ∧ s.ct0 = 7#3

/-- Ticks on the input words `ws`, one after another: a program of CORE is such a list
(30_encoding.md R89). -/
def runTicks (ws : List InWord) (s : State) : Result :=
  match ws with
  | [] => .next s
  | w :: rest => andThen (exec (.tick w) s) (runTicks rest)

/-- `run` is a run of ticks on the words `word 0`, `word 1`, …: each tick completes and starts from
exactly the state the one before it ended with (20_memory.md R61). -/
def TicksThrough (word : Nat → InWord) (run : Nat → State) : Prop :=
  ∀ n, exec (.tick (word n)) (run n) = .next (run (n + 1))

/-- The 34 slots of one tick, in order (46_tick_dispatcher.md R182). -/
def tickSchedule : List Instr :=
  [.sample,
   .phase .red, .qdec .red, .tstep .red,
   .phase .green, .qdec .green, .tstep .green,
   .phase .blue, .qdec .blue, .tstep .blue,
   .debounce, .press, .ttoggle .red, .ttoggle .green, .ttoggle .blue, .longpress, .tclear,
   .fade .red, .fade .green, .fade .blue,
   .decomp,
   .gamma .red, .dither .red, .duty .red,
   .gamma .green, .dither .green, .duty .green,
   .gamma .blue, .dither .blue, .duty .blue,
   .gamma .white, .dither .white, .duty .white,
   .tickinc]

/-- Instructions run one after another through `exec`. -/
def runInstrs (is : List Instr) (s : State) : Result :=
  match is with
  | [] => .next s
  | i :: rest => andThen (exec i s) (runInstrs rest)

/-- `n` moved toward `goal` by at most `steps` (43_color_fader.md R148). -/
def approach (steps n goal : Nat) : Nat :=
  if n ≤ goal then min (n + steps) goal else max (n - steps) goal

end Sys2Proof.Machine
end

