-- ==== Sys2Proof/Certificates/Slice0/Obligations.lean ====
section
/-! DEFINITION. The statements about CORE that are left to be proved. Each names the rule of spec/ it
formalises, or says that it rests on a choice and on which log entry. -/

open Sys2Proof Sys2Proof.Machine

/-! ## Encodings and the step -/

/-- Decoding the request that stands for an instruction gives the instruction back, with every channel
and every one of the 512 input words (30_encoding.md R70, R85). The OP numbers and the layout of IN are the
spec's bookkeeping, decisions D17 and D19 (notes/assumptions/5.md, notes/assumptions/13.md); the packing
into bytes is the model's choice (notes/assumptions/5.md). -/
def Obligations.DecodeInvertsEncode : Prop :=
  ∀ i : Instr, decodeRequest (encode i) = .ok i

/-- Each word has one meaning: a word that decodes is the encoding of what it decodes to
(30_encoding.md R85, R86). The OP numbers and the layout of IN are the spec's bookkeeping, decisions D17
and D19 (notes/assumptions/5.md, notes/assumptions/13.md); the packing into bytes is the model's choice
(notes/assumptions/5.md). -/
def Obligations.EncodeInvertsDecode : Prop :=
  ∀ (bytes : List Byte) (i : Instr),
    decodeWord bytes = .ok i → encode i = { rst := false, word := bytes }

/-- The decoder refuses exactly the ill-formed requests, the reserved OP patterns of 30_encoding.md R86
among them; every 9-bit input word is legal (R70). The OP numbers and the layout of IN are the spec's
bookkeeping, decisions D17 and D19 (notes/assumptions/5.md, notes/assumptions/13.md). That one byte holds
an OP word and two an input word is the model's packing (notes/assumptions/5.md); that rst makes a request
RESET whatever its word is the spec's decision D22 (60_exceptions.md R205: notes/assumptions/6.md). -/
def Obligations.DecoderRefusesExactlyIllFormed : Prop :=
  ∀ q : Request, (∃ i, decodeRequest q = .ok i) ↔ q.wellFormed = true

/-- Words written out from 30_encoding.md R85, R70 and R83 decode to the instruction they stand for. The
OP numbers and the layout of IN are the spec's bookkeeping, decisions D17 and D19 (notes/assumptions/5.md,
notes/assumptions/13.md). That a word is presented as one byte or two, and that the table word 1 of up to
8 bits is RESET and not the reserved OP word 000001, is the model's choice (notes/assumptions/5.md). -/
def Obligations.WrittenOutWordsDecode : Prop :=
  decodeTableWord 8 0b000000 = some .sample ∧
  decodeTableWord 8 0b000110 = some (.phase .blue) ∧
  decodeTableWord 8 0b001001 = some (.qdec .green) ∧
  decodeTableWord 8 0b011010 = some (.ttoggle .blue) ∧
  decodeTableWord 8 0b101111 = some (.gamma .white) ∧
  decodeTableWord 8 0b111000 = some .tickinc ∧
  decodeTableWord 16 0b110111110 = some (.tick 0x1BE#9) ∧
  decodeTableWord 8 0b1 = some .reset

/-- Every reserved OP word is refused, and step stops on it with a refusal that names the reason
(30_encoding.md R86). The names, the stimulus list and the packing into one byte are the model's choice
(notes/assumptions/3.md, notes/assumptions/5.md). -/
def Obligations.ReservedOpWordsStopTheStep : Prop :=
  ∀ (w : OpWord) (s : State) (rest : List Request),
    w.wellFormed = false → s.stimulus = { rst := false, word := [w.setWidth 8] } :: rest →
    (w.reservedOperation = true ∧ step s = .refused (.undecodable .reservedOperation)) ∨
    (w.reservedColour = true ∧ step s = .refused (.undecodable .reservedColour)) ∨
    (w.reservedChannelField = true ∧ step s = .refused (.undecodable .reservedChannelField))

/-- A step runs the decoded instruction: it answers what exec answers at the state from which the
request has been taken and nothing else changed (60_exceptions.md R206: one per request, in order, which is
the spec's decision D23: notes/assumptions/14.md). The stimulus list and the stepping of a single operation
are the model's choice (notes/assumptions/3.md, notes/assumptions/15.md). -/
def Obligations.StepRunsTheDecodedInstruction : Prop :=
  ∀ (s : State) (q : Request) (rest : List Request) (i : Instr),
    s.stimulus = q :: rest → decodeRequest q = .ok i →
    step s = exec i { s with stimulus := rest }

/-- With no request CORE does nothing (60_exceptions.md R209, R218; that such a step is a next state is
the model's: notes/assumptions/3.md). -/
def Obligations.StepWithoutRequestChangesNothing : Prop :=
  (∀ s : State, s.stimulus = [] → step s = .next s) ∧
  (∀ (s : State) (rest : List Request),
    s.stimulus = { rst := false, word := [] } :: rest → step s = .next { s with stimulus := rest })

/-- While rst is applied no tick happens and the request presented with it is dropped
(60_exceptions.md R205, the spec's decision D22: notes/assumptions/6.md); the reset values are its
decision D14 (notes/assumptions/8.md). What the dead signals hold, that the ports and the rest of the
stimulus stay, and how a word is packed, is the model's choice (notes/assumptions/2.md,
notes/assumptions/3.md, notes/assumptions/5.md). -/
def Obligations.RstOverridesATickRequest : Prop :=
  ∀ (s : State) (w : InWord) (rest : List Request),
    s.stimulus = { rst := true, word := (tickRequest w).word } :: rest →
    step s = .next { State.reset with ports := s.ports, stimulus := rest }

/-! ## The quadrature decoder -/

/-- PHASE c, OP 0001 cc, forms the code whose bit 1 is phase A and whose bit 0 is A xor B, and changes
nothing but that signal (40_quadrature_decoder.md R101). -/
def Obligations.PhaseFormsThePhaseCode : Prop :=
  ∀ (c : Colour) (s : State),
    decodeOp (0b0001#4 ++ BitVec.ofNat 2 c.index) = .ok (.phase c) ∧ ∃ v : PhaseCode,
    exec (.phase c) s =
      .next { s with sig := { s.sig with curPhase := s.sig.curPhase.set c v } } ∧
    v.getLsbD 1 = s.sig.inWord.getLsbD (2 * c.index) ∧
    v.getLsbD 0 =
      (s.sig.inWord.getLsbD (2 * c.index) ^^ s.sig.inWord.getLsbD (2 * c.index + 1))

/-- QDEC c, OP 0010 cc, classifies the difference of the phase codes and stores the new code whatever
the move; it changes nothing else (40_quadrature_decoder.md R102, R103; 30_encoding.md R74). -/
def Obligations.QdecClassifiesTheMove : Prop :=
  ∀ (c : Colour) (s : State),
    decodeOp (0b0010#4 ++ BitVec.ofNat 2 c.index) = .ok (.qdec c) ∧ ∃ (d : BitVec 2) (m : Move),
    exec (.qdec c) s =
      .next { s with
        lastPhase := s.lastPhase.set c (s.sig.curPhase.get c)
        sig := { s.sig with diff := s.sig.diff.set c d, move := s.sig.move.set c m } } ∧
    (d.toNat : Int) =
      ((s.lastPhase.get c).toNat - (s.sig.curPhase.get c).toNat : Int) % 4 ∧
    m = (if d.toNat = 1 then .inc else if d.toNat = 3 then .dec else .none)

/-- A jump of two positions gives no move, a skip of three gives one move the wrong way, and both adopt
the new code (40_quadrature_decoder.md R105). -/
def Obligations.SkippedTransitionsAreMiscounted : Prop :=
  ∀ (c : Colour) (s : State), ∃ t : State,
    exec (.qdec c) s = .next t ∧ t.lastPhase.get c = s.sig.curPhase.get c ∧
    (s.sig.curPhase.get c = s.lastPhase.get c - 2#2 →
      t.sig.diff.get c = 2#2 ∧ t.sig.move.get c = .none) ∧
    (s.sig.curPhase.get c = s.lastPhase.get c - 3#2 → t.sig.move.get c = .dec) ∧
    (s.sig.curPhase.get c = s.lastPhase.get c + 3#2 → t.sig.move.get c = .inc)

/-- One detent: the pin pairs 01, 00, 10, 11 of one encoder, from the idle pair, raise its target by
four, clamped at 40, and the reverse order lowers it by four, clamped at 0; the two other targets stay
(40_quadrature_decoder.md R104; 41_bounded_counter.md R111). -/
def Obligations.OneDetentMovesTheTargetByFour : Prop :=
  ∀ (c : Colour) (s : State), s.AtRest → s.LevelsInRange →
    let word (a b : Bool) : InWord :=
      (idleWord ^^^ ((BitVec.ofBool !a).setWidth 9 <<< (2 * c.index))) ^^^
        ((BitVec.ofBool !b).setWidth 9 <<< (2 * c.index + 1))
    (∃ t, runTicks [word false true, word false false, word true false, word true true] s = .next t ∧
      (t.target.get c).toNat = min ((s.target.get c).toNat + 4) 40 ∧
      ∀ d, d ≠ c → t.target.get d = s.target.get d) ∧
    (∃ t, runTicks [word true false, word false false, word false true, word true true] s = .next t ∧
      (t.target.get c).toNat = (s.target.get c).toNat - 4 ∧
      ∀ d, d ≠ c → t.target.get d = s.target.get d)

/-! ## The bounded counter -/

/-- TSTEP c, OP 0011 cc, adds or subtracts 1, clamped to 0..40, and writes nothing else
(41_bounded_counter.md R111). -/
def Obligations.TstepClampsTheTarget : Prop :=
  ∀ (c : Colour) (s : State),
    decodeOp (0b0011#4 ++ BitVec.ofNat 2 c.index) = .ok (.tstep c) ∧ ∃ v : Byte,
    exec (.tstep c) s = .next { s with target := s.target.set c v } ∧
    (v.toNat : Int) =
      match s.sig.move.get c with
      | .inc => min ((s.target.get c).toNat + 1) 40
      | .dec => max ((s.target.get c).toNat - 1) 0
      | .none => (s.target.get c).toNat

/-- TTOGGLE c, OP 0110 cc, sets a target of 0 to 40 and any other to 0 on a press edge of its own
button, and does nothing without one (41_bounded_counter.md R112). -/
def Obligations.TtoggleTogglesOnAPressEdge : Prop :=
  ∀ (c : Colour) (s : State),
    decodeOp (0b0110#4 ++ BitVec.ofNat 2 c.index) = .ok (.ttoggle c) ∧
    exec (.ttoggle c) s =
      .next (if s.sig.pressed.getLsbD c.index = true then
          { s with target := s.target.set c (if s.target.get c = 0#8 then 40#8 else 0#8) }
        else s)

/-- TCLEAR, OP 1000 00, zeroes all three targets when fire is 1, and does nothing otherwise
(41_bounded_counter.md R113). -/
def Obligations.TclearClearsAllTargets : Prop :=
  ∀ s : State,
    decodeOp 0b100000#6 = .ok .tclear ∧
    exec .tclear s =
      .next (if s.sig.fire = true then { s with target := ⟨0#8, 0#8, 0#8⟩ } else s)

/-! ## The button debouncer and long-press detector -/

/-- DEBOUNCE runs its five lines in order, each on the values of the lines before it, and writes nothing
else (42_button_debounce.md R121; the order is the spec's decision D7: notes/assumptions/10.md). -/
def Obligations.DebounceUpdatesTheVectors : Prop :=
  ∀ s : State,
    let rawChange := s.ts ^^^ ~~~ (s.sig.inWord.extractLsb' 6 3)
    let ct0 := ~~~ (s.ct0 &&& rawChange)
    let ct1 := ct0 ^^^ s.ct1
    let accepted := rawChange &&& ct0 &&& ct1
    exec .debounce s =
      .next { s with
        ct0 := ct0
        ct1 := ct1
        ts := s.ts ^^^ accepted
        sig := { s.sig with rawChange := rawChange, accepted := accepted } }

/-- The lanes are independent: in a tick each new bit of lane c is the one-lane formula of the old bits
of lane c and of the level of button c (42_button_debounce.md R127, derived there from R121). That ct1
takes the new ct0 and ts the new ct0 and ct1 is the spec's decision D7 (R124, R125:
notes/assumptions/10.md). -/
def Obligations.DebounceLanesAreIndependent : Prop :=
  ∀ (c : Colour) (w : InWord) (s : State), s.LevelsInRange →
    let i := lane s.ts c ^^ !inP w c
    let a := !(lane s.ct0 c && i)
    let b := a ^^ lane s.ct1 c
    ∃ t, exec (.tick w) s = .next t ∧
      lane t.ct0 c = a ∧ lane t.ct1 c = b ∧ lane t.ts c = (lane s.ts c ^^ (i && a && b))

/-- PRESS, OP 0101 00, gives the lanes set in both ts and accepted, and writes nothing else; after
DEBOUNCE, lane c of pressed is 1 exactly when ts[c] has gone from 0 to 1 (42_button_debounce.md
R132). -/
def Obligations.PressFindsThePressEdges : Prop :=
  decodeOp 0b010100#6 = .ok .press ∧
  (∀ s : State,
    exec .press s = .next { s with sig := { s.sig with pressed := s.ts &&& s.sig.accepted } }) ∧
  (∀ s : State, ∃ t, runInstrs [.debounce, .press] s = .next t ∧
    ∀ c, lane t.sig.pressed c = (!lane s.ts c && lane t.ts c))

/-- LONGPRESS reloads 750 when nothing is held; else it counts down modulo 2^16 and fires when the new
value is 0. It writes nothing else (42_button_debounce.md R135 to R138). That held is taken from ts, the
debounced register, and not from the pins is the spec's decision D8 (notes/assumptions/12.md); the
mechanics and the width of the countdown are its decision D10 (notes/assumptions/9.md). -/
def Obligations.LongpressReloadsOrCountsDown : Prop :=
  ∀ s : State,
    (s.ts = 0#3 →
      exec .longpress s =
        .next { s with rpt := 750#16, sig := { s.sig with held := false, fire := false } }) ∧
    (s.ts ≠ 0#3 → ∃ v : BitVec 16,
      exec .longpress s =
        .next { s with rpt := v, sig := { s.sig with held := true, fire := decide (v.toNat = 0) } } ∧
      v.toNat = (s.rpt.toNat + 65535) % 65536)

/-- A disagreement of one tick, with the lane at rest before it, is never accepted, and leaves the lane
at rest (42_button_debounce.md R130, derived there from R121). -/
def Obligations.OneTickGlitchIsRejected : Prop :=
  ∀ (c : Colour) (s : State) (w1 w2 : InWord), s.LevelsInRange → lane s.ct0 c = true →
    (!inP w1 c) ≠ lane s.ts c → (!inP w2 c) = lane s.ts c →
    ∃ t1 t2, exec (.tick w1) s = .next t1 ∧ exec (.tick w2) t1 = .next t2 ∧
      lane t1.ts c = lane s.ts c ∧ lane t2.ts c = lane s.ts c ∧ lane t2.ct0 c = true

/-- A change is accepted in its second tick when the lane's ct1 bit was 0 before it and in its fourth
when it was 1, and in no other of the four (42_button_debounce.md R129, derived there from R121). That ct1
takes the new ct0 and accepted the new ct0 and ct1 is the spec's decision D7 (R124, R125:
notes/assumptions/10.md). -/
def Obligations.ConfirmationTakesTwoOrFourTicks : Prop :=
  ∀ (c : Colour) (s : State) (w1 w2 w3 w4 : InWord), s.LevelsInRange → lane s.ct0 c = true →
    (∀ w ∈ [w1, w2, w3, w4], (!inP w c) ≠ lane s.ts c) →
    ∃ t1 t2 t3 t4, exec (.tick w1) s = .next t1 ∧ exec (.tick w2) t1 = .next t2 ∧
      exec (.tick w3) t2 = .next t3 ∧ exec (.tick w4) t3 = .next t4 ∧
      lane t1.ts c = lane s.ts c ∧
      lane t2.ts c = (if lane s.ct1 c then lane s.ts c else !lane s.ts c) ∧
      lane t3.ts c = (if lane s.ct1 c then lane s.ts c else !lane s.ts c) ∧
      lane t4.ts c = !lane s.ts c

/-- While a pin agrees with the debounced state nothing is accepted in its lane, for any number of ticks
(42_button_debounce.md R126, R131). -/
def Obligations.AgreeingPinIsNeverAccepted : Prop :=
  ∀ (c : Colour) (ws : List InWord) (s : State), s.LevelsInRange →
    (∀ w ∈ ws, (!inP w c) = lane s.ts c) →
    ∃ t, runTicks ws s = .next t ∧ lane t.ts c = lane s.ts c

/-- With nothing held and the countdown at 750, on any input words: as long as every tick ends with
some button held, whichever it is, each tick takes the countdown down by one; the 750th takes it to 0 and
leaves all three targets 0, and in no tick before it does the long press touch a target, which is what
the encoder and the press edge leave (42_button_debounce.md R139, R140, derived there from R135 to R137).
The count is the spec's decision D10, what held means D8, the order of the writers D9
(notes/assumptions/9.md, notes/assumptions/12.md). -/
def Obligations.LongPressFiresInThe750thHeldTick : Prop :=
  ∀ (s : State) (word : Nat → InWord), s.LevelsInRange → s.ts = 0#3 → s.rpt = 750#16 →
    ∃ run : Nat → State, run 0 = s ∧ TicksThrough word run ∧
      ∀ n, n < 750 → (∀ m, m ≤ n → (run (m + 1)).ts ≠ 0#3) →
        (run (n + 1)).rpt.toNat = 749 - n ∧
        ∀ c, ((run (n + 1)).target.get c).toNat =
          if n = 749 then 0 else pseudoToggled (word n) (run n) c

/-- A tick clears the targets when it ends held with a countdown of 0; in every other tick each target
is what the encoder and the press edge leave (41_bounded_counter.md R110, R113; 42_button_debounce.md
R137; order, held and mechanics are the spec's decisions D9, D8 and D10:
notes/assumptions/12.md, notes/assumptions/9.md). -/
def Obligations.LongPressClearsOnlyWhenItFires : Prop :=
  ∀ (w : InWord) (s : State), s.LevelsInRange → ∃ t, exec (.tick w) s = .next t ∧
    ∀ c, (t.target.get c).toNat =
      if t.ts ≠ 0#3 ∧ t.rpt = 0#16 then 0 else pseudoToggled w s c

/-! ## The fader and the decomposer -/

/-- FADE c in a fade tick moves the current level by the sign of the exact difference and writes nothing
else (43_color_fader.md R146); in any other tick it writes nothing. That the condition of
46_tick_dispatcher.md R184 is part of FADE's own meaning, as in the line of 30_encoding.md R85, is the
model's choice (notes/assumptions/15.md); its residue is the spec's decision D11
(notes/assumptions/11.md). -/
def Obligations.FadeMovesOneUnitTowardTheTarget : Prop :=
  ∀ (c : Colour) (s : State),
    (s.sig.t.toNat % 32 ≠ 0 → exec (.fade c) s = .next s) ∧
    (s.sig.t.toNat % 32 = 0 → ∃ v : Byte,
      exec (.fade c) s = .next { s with current := s.current.set c v } ∧
      (v.toNat : Int) = (s.current.get c).toNat +
        Int.sign ((s.target.get c).toNat - (s.current.get c).toNat))

/-- With idle inputs from rest, any 32 n ticks hold exactly n fade steps: each current level has moved
toward its target by n units or is at rest there, and the targets have not moved (43_color_fader.md
R147, and R148, derived there from R146). -/
def Obligations.FaderConvergesWithoutOvershoot : Prop :=
  ∀ (n : Nat) (s : State), s.AtRest → s.LevelsInRange →
    ∃ t, runTicks (List.replicate (32 * n) idleWord) s = .next t ∧ t.target = s.target ∧
      ∀ c, (t.current.get c).toNat = approach n (s.current.get c).toNat (s.target.get c).toNat

/-- DECOMP, OP 1010 00, gives the minimum as white and each colour's residual over it, and writes no
register; white and residual add up to the current level, and at least one residual is 0
(44_rgbw_decomposer.md R156 and, derived there from it, R157). -/
def Obligations.DecompExtractsTheCommonWhite : Prop :=
  ∀ s : State, decodeOp 0b101000#6 = .ok .decomp ∧ ∃ L : PerOut Byte,
    exec .decomp s = .next { s with sig := { s.sig with level := L } } ∧
    L.white.toNat =
      min s.current.red.toNat (min s.current.green.toNat s.current.blue.toNat) ∧
    (∀ c : Colour, (L.get c.out).toNat = (s.current.get c).toNat - L.white.toNat) ∧
    (∀ c : Colour, L.white.toNat + (L.get c.out).toNat = (s.current.get c).toNat) ∧
    (∃ c : Colour, L.get c.out = 0#8)

/-! ## The gamma and dither encoder -/

/-- GAMMA k on a level with a table entry gives that entry, 0 for level 0 and 255 for level 40, and
writes nothing else (45_gamma_dither_pwm.md R166, R167; the table is open and its end values are the
spec's decision D15: notes/assumptions/1.md). -/
def Obligations.GammaReadsTheTable : Prop :=
  ∀ (k : OutChannel) (s : State) (i : Fin 41), i.val = (s.sig.level.get k).toNat →
    exec (.gamma k) s =
      .next { s with sig := { s.sig with pwm := s.sig.pwm.set k (Config.tables.gamma i) } } ∧
    (i = 0 → Config.tables.gamma i = 0#8) ∧ (i = 40 → Config.tables.gamma i = 255#8)

/-- GAMMA k on a level above 40 raises the model's fault F1 with the channel and the level
(60_exceptions.md R201; 45_gamma_dither_pwm.md R167; the fault is the spec's decision D16:
notes/assumptions/7.md). -/
def Obligations.GammaFaultsAboveTheTable : Prop :=
  ∀ (k : OutChannel) (s : State), 40 < (s.sig.level.get k).toNat →
    exec (.gamma k) s = .fault (.gammaIndexOutOfRange k (s.sig.level.get k))

/-- DITHER k takes bit t mod 8 of the pattern that the two low bits of pwm select, and writes nothing
else (45_gamma_dither_pwm.md R168). That bit 0 is the least significant and that t is the value before the
increment are the spec's decisions D12 and D11 (notes/assumptions/11.md). -/
def Obligations.DitherSelectsThePatternBit : Prop :=
  ∀ (k : OutChannel) (s : State) (j : Fin 4), j.val = (s.sig.pwm.get k).toNat % 4 →
    ∃ v : BitVec 1,
      exec (.dither k) s = .next { s with sig := { s.sig with x := s.sig.x.set k v } } ∧
      v.toNat = (Config.tables.dither j).toNat / 2 ^ (s.sig.t.toNat % 8) % 2

/-- DUTY k, OP 1101 kk, writes the quotient plus the dither bit, with no carry out of 8 bits and never
above 64, and nothing else (45_gamma_dither_pwm.md R170 and, derived there from it, R172). -/
def Obligations.DutyAddsTheDitherBit : Prop :=
  ∀ (k : OutChannel) (s : State),
    decodeOp (0b1101#4 ++ BitVec.ofNat 2 k.index) = .ok (.duty k) ∧ ∃ v : Byte,
    exec (.duty k) s = .next { s with duty := s.duty.set k v } ∧
    v.toNat = (s.sig.pwm.get k).toNat / 4 + (s.sig.x.get k).toNat ∧ v.toNat ≤ 64

/-- A channel whose level is 40 shows 63 plus the bit of the last dither pattern
(45_gamma_dither_pwm.md R177; the end of the table and the bit numbering are the spec's decisions D15
and D12: notes/assumptions/1.md, notes/assumptions/11.md). -/
def Obligations.FullLevelShowsTheLastPattern : Prop :=
  ∀ (k : OutChannel) (s : State), s.sig.level.get k = 40#8 →
    ∃ t, runInstrs [.gamma k, .dither k, .duty k] s = .next t ∧
      (t.duty.get k).toNat =
        63 + (Config.tables.dither 3).toNat / 2 ^ (s.sig.t.toNat % 8) % 2

/-- On any input words from any state in range, while the level of channel k stays the same over eight
ticks in a row, its eight duty values add up to twice the gamma result: its mean duty is a quarter of it,
exactly (45_gamma_dither_pwm.md R173, which rests on the constraint R169 (b), the spec's decision D15:
notes/assumptions/1.md). -/
def Obligations.DitherMeanIsAQuarterOfTheGammaResult : Prop :=
  ∀ (s : State) (word : Nat → InWord), s.LevelsInRange →
    ∃ run : Nat → State, run 0 = s ∧ TicksThrough word run ∧
      ∀ (k : OutChannel) (i : Fin 41),
        (∀ n, n < 8 → ((decomposed (run (n + 1)).current).get k).toNat = i.val) →
        ((List.range 8).map fun n => ((run (n + 1)).duty.get k).toNat).sum =
          2 * (Config.tables.gamma i).toNat

/-- Dark means dark: after a tick every channel whose level is 0 has duty 0, whatever the other channels
show (45_gamma_dither_pwm.md R178, which rests on the constraints R166 (d) and R169 (b), the spec's
decision D15: notes/assumptions/1.md). -/
def Obligations.DarkMeansDark : Prop :=
  ∀ (w : InWord) (s t : State), exec (.tick w) s = .next t →
    ∀ k, (decomposed t.current).get k = 0#8 → t.duty.get k = 0#8

/-! ## The dispatcher -/

/-- SAMPLE latches the nine levels into IN, each at its bit, and copies tick to t; it writes no register
(46_tick_dispatcher.md R181; 30_encoding.md R70). The sampling instant and the layout are the spec's
decisions D3 and D19 (notes/assumptions/13.md), that t is the value before the increment its decision
D11 (notes/assumptions/11.md). -/
def Obligations.SampleLatchesTheInputs : Prop :=
  ∀ s : State, ∃ w : InWord,
    exec .sample s = .next { s with sig := { s.sig with inWord := w, t := s.tick } } ∧
    ∀ c : Colour,
      w.getLsbD (2 * c.index) = s.ports.encA.get c ∧
      w.getLsbD (2 * c.index + 1) = s.ports.encB.get c ∧
      w.getLsbD (6 + c.index) = s.ports.btn.get c

/-- TICKINC writes the value of t plus 1 modulo 256 to tick, and nothing else (46_tick_dispatcher.md
R185; width and place are the spec's decision D11: notes/assumptions/11.md). -/
def Obligations.TickincAdvancesTheCounter : Prop :=
  ∀ s : State, ∃ v : Byte,
    exec .tickinc s = .next { s with tick := v } ∧ v.toNat = (s.sig.t.toNat + 1) % 256

/-- TICK on any state and any input word does what the one-piece pseudocode of the whole tick does, the
fault included (46_tick_dispatcher.md R183). The pseudocode holds the spec's decisions D3 on sampling, D7
on DEBOUNCE, D8 and D9 on the buttons, D10 on the countdown, D11 and D12 on the counter and the patterns,
and D16 on the fault (notes/assumptions/7.md, notes/assumptions/9.md to notes/assumptions/13.md). That the
signals hold a filler afterwards, the ports the word presented and the stimulus what it held is the
model's choice (notes/assumptions/2.md, notes/assumptions/3.md). -/
def Obligations.TickMeetsItsPseudocode : Prop :=
  ∀ (w : InWord) (s : State), exec (.tick w) s = tickPseudocode Config.tables w s

/-- TICK completes on every state and input word whose levels after DECOMP are all at most 40, with the
whole next state that the pseudocode of the tick gives; and they are at most 40 when targets and current
levels are in 0..40 (46_tick_dispatcher.md R183, R188; 44_rgbw_decomposer.md R158). The pseudocode holds
the spec's decisions D3 and D7 to D12 (notes/assumptions/9.md to notes/assumptions/13.md). That this
state's signals hold a filler, its ports the word presented and its stimulus what it held is the model's
choice (notes/assumptions/2.md, notes/assumptions/3.md). -/
def Obligations.TickCompletesInRange : Prop :=
  ∀ (w : InWord) (s : State),
    ((∀ k, pseudoLevel w s k ≤ 40) → exec (.tick w) s = .next (pseudoNext Config.tables w s)) ∧
    (s.LevelsInRange → ∀ k, pseudoLevel w s k ≤ 40)

/-- TICK faults exactly when some decomposed level has no table entry (45_gamma_dither_pwm.md R167;
60_exceptions.md R201; the fault is the spec's decision D16: notes/assumptions/7.md). -/
def Obligations.TickFaultsExactlyAboveTheTable : Prop :=
  ∀ (w : InWord) (s : State),
    (∃ e, exec (.tick w) s = .fault e) ↔ ∃ k, 40 < pseudoLevel w s k

/-- TICK is its 34 slots run one after another on the presented word, after which the signals are dead
(46_tick_dispatcher.md R182; 10_state.md R32). The list runs the three FADE slots in every tick, where R182
skips them: that is the same because FADE holds its own condition, and that operations can be run singly is
the model's choice too (notes/assumptions/15.md), as is what dead signals hold (notes/assumptions/2.md).
The places of SAMPLE and TICKINC, the order in the button stage and the fade residue are the spec's
decisions D3, D9 and D11 (notes/assumptions/13.md, notes/assumptions/12.md, notes/assumptions/11.md). -/
def Obligations.TickIsItsSchedule : Prop :=
  ∀ (w : InWord) (s : State),
    exec (.tick w) s =
      andThen (runInstrs tickSchedule { s with ports := portsOfWord w })
        (fun u => .next { u with sig := Signals.dead })

/-- Nothing but the registers survives from one tick to the next: two states with the same registers
and the same stimulus go through a tick alike, whatever their signals and port levels were
(10_state.md R20). -/
def Obligations.NothingElseSurvivesATick : Prop :=
  ∀ (w : InWord) (s u : State), s.SameRegisters u → s.stimulus = u.stimulus →
    exec (.tick w) s = exec (.tick w) u

/-- A channel sees no other channel's encoder: two input words that agree on the buttons and on encoder
c leave the same phase code and the same target in channel c (40_quadrature_decoder.md R100). -/
def Obligations.EncodersShareNothing : Prop :=
  ∀ (c : Colour) (w v : InWord) (s : State), s.LevelsInRange →
    inA w c = inA v c → inB w c = inB v c → (∀ d, inP w d = inP v d) →
    ∃ t u, exec (.tick w) s = .next t ∧ exec (.tick v) s = .next u ∧
      t.lastPhase.get c = u.lastPhase.get c ∧ t.target.get c = u.target.get c

/-- A press edge acts on the target the encoder of the same tick left: 40 if that is 0, else 0, unless
the long press fires in the same tick (41_bounded_counter.md R110, R112, the spec's decision D9:
notes/assumptions/12.md). -/
def Obligations.PressActsOnTheSteppedTarget : Prop :=
  ∀ (c : Colour) (w : InWord) (s t : State), exec (.tick w) s = .next t →
    lane s.ts c = false → lane t.ts c = true → t.rpt ≠ 0#16 →
    (t.target.get c).toNat = if pseudoStepped w s c = 0 then 40 else 0

/-- A tick moves each current level by at most one unit, never past the new target, and only in the
ticks whose counter is a multiple of 32 (43_color_fader.md R145 to R147, R151; the residue is the spec's
decision D11: notes/assumptions/11.md). -/
def Obligations.TickFadesAtMostOneUnit : Prop :=
  ∀ (w : InWord) (s t : State), exec (.tick w) s = .next t →
    ∀ c, (s.tick.toNat % 32 ≠ 0 → t.current.get c = s.current.get c) ∧
      (s.tick.toNat % 32 = 0 →
        (t.current.get c).toNat =
          approach 1 (s.current.get c).toNat (t.target.get c).toNat)

/-- RESET writes every register, from any state, and no tick is then in progress
(46_tick_dispatcher.md R186). The zero values are the spec's own choice, decision D14
(notes/assumptions/8.md); that no tick goes on after RESET is its decision D22 (60_exceptions.md R205:
notes/assumptions/6.md). What the dead signals hold, and that ports and stimulus stay, is the model's
choice (notes/assumptions/2.md, notes/assumptions/3.md). -/
def Obligations.ResetWritesEveryRegister : Prop :=
  ∀ s : State, exec .reset s = .next
    { lastPhase := ⟨0#2, 0#2, 0#2⟩
      target := ⟨0#8, 0#8, 0#8⟩
      current := ⟨0#8, 0#8, 0#8⟩
      ts := 0#3
      ct0 := 0#3
      ct1 := 0#3
      rpt := 750#16
      tick := 0#8
      duty := ⟨0#8, 0#8, 0#8, 0#8⟩
      sig := Signals.dead
      ports := s.ports
      stimulus := s.stimulus }

/-- The two reset values the source states: the countdown holds 750 and the outputs are cleared
(10_state.md R27, R29). -/
def Obligations.ResetLoadsTheStatedValues : Prop :=
  State.reset.rpt.toNat = 750 ∧ ∀ k, State.reset.duty.get k = 0#8

/-- A button low in the first tick after reset is accepted in that tick, and its target is then 40,
unless its encoder reports an increment in the same tick, and then 0 (42_button_debounce.md R141;
70_reset_and_hazards.md R240, R241). It rests on the spec's decisions D14, the reset values, D7, the
order in DEBOUNCE, and D9, the press after the encoder (notes/assumptions/8.md,
notes/assumptions/10.md, notes/assumptions/12.md). -/
def Obligations.FirstTickAcceptsAPressAtOnce : Prop :=
  ∀ (c : Colour) (w : InWord), inP w c = false →
    ∃ t, exec (.tick w) State.reset = .next t ∧ lane t.ts c = true ∧
      t.target.get c = if inA w c = true ∧ inB w c = false then 0#8 else 40#8

/-- Idle ticks from reset change only the phase codes, ct0, ct1, which alternates, and tick; the outputs
stay dark (70_reset_and_hazards.md R232, R233). It rests on the spec's decisions D14, the reset values,
D15, GAMMA[0] = 0 and no bit set in DITHER[0], D7, by which ct1 takes the new ct0, and D11, the width of
tick and its increment (notes/assumptions/8.md, notes/assumptions/1.md, notes/assumptions/10.md,
notes/assumptions/11.md). What the signals, the ports and the stimulus hold is the model's choice
(notes/assumptions/2.md, notes/assumptions/3.md, notes/assumptions/4.md). -/
def Obligations.IdleTicksFromReset : Prop :=
  ∀ n : Nat, 0 < n →
    runTicks (List.replicate n idleWord) State.reset = .next
      { State.reset with
        lastPhase := ⟨2#2, 2#2, 2#2⟩
        ct0 := 7#3
        ct1 := if n % 2 = 1 then 7#3 else 0#3
        tick := BitVec.ofNat 8 n }

/-! ## Ranges and safety -/

/-- The ranges hold in the state after reset (10_state.md R38 to R41). The zero levels are the spec's
decision D14 (notes/assumptions/8.md); what the signal level holds at reset is the model's choice
(notes/assumptions/2.md). -/
def Obligations.RangesHoldAtReset : Prop := State.reset.InRange

/-- Every step keeps the ranges, from any state that has them and on any request: targets, current
levels and levels stay in 0..40 and duties in 0..64 (10_state.md R39 to R41; 44_rgbw_decomposer.md
R158). That the signal level is held between steps, and that a single operation can be stepped, is the
model's choice (notes/assumptions/2.md, notes/assumptions/15.md). -/
def Obligations.StepKeepsTheRanges : Prop :=
  ∀ s t : State, s.InRange → step s = .next t → t.InRange

/-- From a state with the ranges no step faults, whatever the request (60_exceptions.md R201: the fault
cannot be reached; 70_reset_and_hazards.md R249). The fault is the spec's decision D16
(notes/assumptions/7.md); that the signal level is held between steps, and that a single operation can be
stepped, is the model's choice (notes/assumptions/2.md, notes/assumptions/15.md). -/
def Obligations.NoStepFaultsInRange : Prop :=
  ∀ (s : State) (e : Fault), s.InRange → step s ≠ .fault e

/-- No run from reset faults, whatever the environment presents and for however long
(60_exceptions.md R201; 10_state.md R37: a claim holds for every input sequence). The fault and the reset
values are the spec's decisions D16 and D14 (notes/assumptions/7.md, notes/assumptions/8.md); the
stimulus list, the signals held between steps and the stepping of a single operation are the model's
choice (notes/assumptions/3.md, notes/assumptions/2.md, notes/assumptions/15.md). -/
def Obligations.NoRunFromResetFaults : Prop :=
  ∀ (requests : List Request) (n : Nat) (e : Fault),
    Host.Core.run Sys2Proof.core n ({ State.reset with stimulus := requests } : State) ≠ .fault e

/-- A tick on a level above 40 ends the run: after any number of completed steps from any state, if the
next request is a tick that gives channel k a level above 40 and no channel before it one, the run is at
the fault with k and that level from then on, however long it goes on and whatever is requested after it,
RESET among it (60_exceptions.md R201). The fault and one tick per request are the spec's decisions D16 and
D23 (R206: notes/assumptions/7.md, notes/assumptions/14.md); the stimulus list and the packing are the
model's choice (notes/assumptions/3.md, notes/assumptions/5.md). -/
def Obligations.FaultIsKept : Prop :=
  ∀ (s u : State) (w : InWord) (rest : List Request) (n : Nat) (k : OutChannel),
    Host.Core.run Sys2Proof.core n s = .next u → u.stimulus = tickRequest w :: rest →
    40 < pseudoLevel w u k → (∀ j, j.index < k.index → pseudoLevel w u j ≤ 40) →
    ∀ m, Host.Core.run Sys2Proof.core (n + 1 + m) s =
      .fault (.gammaIndexOutOfRange k (BitVec.ofNat 8 (pseudoLevel w u k)))

/-- After any tick from any state no duty is above 64 (10_state.md R41; 45_gamma_dither_pwm.md
R172). -/
def Obligations.TickEndsWithDutyAtMost64 : Prop :=
  ∀ (w : InWord) (s t : State), exec (.tick w) s = .next t → ∀ k, (t.duty.get k).toNat ≤ 64

/-- Each register is written by the operations listed for it, by TICK, which runs them, and by RESET,
and by nothing else (10_state.md R30). -/
def Obligations.OnlyTheListedOperationsWrite : Prop :=
  ∀ (i : Instr) (s t : State), exec i s = .next t → (∀ w, i ≠ .tick w) → i ≠ .reset →
    (t.lastPhase ≠ s.lastPhase → ∃ c, i = .qdec c) ∧
    (t.target ≠ s.target → (∃ c, i = .tstep c) ∨ (∃ c, i = .ttoggle c) ∨ i = .tclear) ∧
    (t.current ≠ s.current → ∃ c, i = .fade c) ∧
    (t.ts ≠ s.ts ∨ t.ct0 ≠ s.ct0 ∨ t.ct1 ≠ s.ct1 → i = .debounce) ∧
    (t.rpt ≠ s.rpt → i = .longpress) ∧
    (t.tick ≠ s.tick → i = .tickinc) ∧
    (t.duty ≠ s.duty → ∃ k, i = .duty k)

/-- A stimulus of input words, stepped through by the machine, is those ticks one after another, a fault
included (30_encoding.md R89; 20_memory.md R61). One tick per request, in order, is the spec's decision
D23 (60_exceptions.md R206: notes/assumptions/14.md); the stimulus list and the packing are the model's
choice (notes/assumptions/3.md, notes/assumptions/5.md). -/
def Obligations.SteppingAStimulusRunsItsTicks : Prop :=
  ∀ (ws : List InWord) (s : State),
    Host.Core.run Sys2Proof.core ws.length ({ s with stimulus := ws.map tickRequest } : State) =
      runTicks ws { s with stimulus := [] }

/-- With button c held from a countdown of 749, which is what the first held tick leaves, and its pin
low from then on, its debounced state stays held: each tick takes the countdown down by one, and the
749th leaves it at 0 and all three targets 0 (42_button_debounce.md R126, R137, R139). The count is the
spec's decision D10, what held means D8, the order of the writers D9 (notes/assumptions/9.md,
notes/assumptions/12.md). -/
def Obligations.AButtonHeldLowFiresTheLongPress : Prop :=
  ∀ (c : Colour) (ws : List InWord) (s : State), s.LevelsInRange →
    lane s.ts c = true → s.rpt = 749#16 → (∀ w ∈ ws, inP w c = false) → ws.length ≤ 749 →
    ∃ t, runTicks ws s = .next t ∧ t.rpt.toNat = 749 - ws.length ∧
      (ws.length = 749 → t.target = ⟨0#8, 0#8, 0#8⟩)
end

