-- ==== Sys2Proof/Laws/Channels.lean ====
section
/-! SUPPORT. Read-after-write laws of the two channel containers. -/

namespace Sys2Proof

@[simp] theorem PerColour.get_set_self {α : Type} (v : PerColour α) (c : Colour) (a : α) :
    (v.set c a).get c = a := by
  cases c <;> rfl

@[simp] theorem PerColour.get_set_of_ne {α : Type} (v : PerColour α) (c d : Colour) (a : α)
    (h : d ≠ c) : (v.set c a).get d = v.get d := by
  cases c <;> cases d <;> first | rfl | exact absurd rfl h

theorem PerColour.get_set {α : Type} (v : PerColour α) (c d : Colour) (a : α) :
    (v.set c a).get d = if d = c then a else v.get d := by
  by_cases h : d = c
  · subst h; simp
  · simp [h]

@[simp] theorem PerColour.get_all {α : Type} (a : α) (c : Colour) :
    (PerColour.all a).get c = a := by
  cases c <;> rfl

theorem PerColour.ext_get {α : Type} {u v : PerColour α} (h : ∀ c, u.get c = v.get c) : u = v := by
  obtain ⟨ur, ug, ub⟩ := u
  obtain ⟨vr, vg, vb⟩ := v
  have hr := h .red
  have hg := h .green
  have hb := h .blue
  simp only [PerColour.get] at hr hg hb
  rw [hr, hg, hb]

@[simp] theorem PerOut.get_set_self {α : Type} (v : PerOut α) (k : OutChannel) (a : α) :
    (v.set k a).get k = a := by
  cases k <;> rfl

@[simp] theorem PerOut.get_set_of_ne {α : Type} (v : PerOut α) (k j : OutChannel) (a : α)
    (h : j ≠ k) : (v.set k a).get j = v.get j := by
  cases k <;> cases j <;> first | rfl | exact absurd rfl h

theorem PerOut.get_set {α : Type} (v : PerOut α) (k j : OutChannel) (a : α) :
    (v.set k a).get j = if j = k then a else v.get j := by
  by_cases h : j = k
  · subst h; simp
  · simp [h]

@[simp] theorem PerOut.get_all {α : Type} (a : α) (k : OutChannel) : (PerOut.all a).get k = a := by
  cases k <;> rfl

theorem PerOut.ext_get {α : Type} {u v : PerOut α} (h : ∀ k, u.get k = v.get k) : u = v := by
  obtain ⟨ur, ug, ub, uw⟩ := u
  obtain ⟨vr, vg, vb, vw⟩ := v
  have hr := h .red
  have hg := h .green
  have hb := h .blue
  have hw := h .white
  simp only [PerOut.get] at hr hg hb hw
  rw [hr, hg, hb, hw]

end Sys2Proof
end

