-- ==== Sys2Proof/Laws/Operands.lean ====
section
/-! SUPPORT. The operand forms and the signal computations as facts about numbers: one lemma each, so
that no proof unfolds them again. -/

namespace Sys2Proof.Machine

open Sys2Proof

/-- The word that the levels of a word form is that word (30_encoding.md R70). -/
@[simp] theorem wordOfPorts_portsOfWord (w : InWord) : wordOfPorts (portsOfWord w) = w := by
  revert w
  decide

theorem phaseCode_toNat (a b : Bool) :
    (phaseCode a b).toNat = 2 * a.toNat + (a ^^ b).toNat := by
  cases a <;> cases b <;> rfl

theorem phaseDiff_toNat (last cur : PhaseCode) :
    (phaseDiff last cur).toNat = (last.toNat + 4 - cur.toNat) % 4 := by
  revert last cur; decide

theorem moveOfDiff_eq (d : BitVec 2) :
    moveOfDiff d = if d.toNat = 1 then .inc else if d.toNat = 3 then .dec else .none := by
  revert d; decide

theorem steppedTarget_toNat (m : Move) (v : Byte) :
    (steppedTarget m v).toNat =
      match m with
      | .inc => min (v.toNat + 1) 40
      | .dec => v.toNat - 1
      | .none => v.toNat := by
  have hv := v.isLt
  cases m with
  | none => rfl
  | inc =>
    simp only [steppedTarget, BitVec.toNat_ofNat]
    exact Nat.mod_eq_of_lt (by simp only [Config.encMax]; omega)
  | dec =>
    simp only [steppedTarget, BitVec.toNat_ofInt]
    omega

theorem toggledTarget_toNat (v : Byte) :
    (toggledTarget v).toNat = if v.toNat = 0 then 40 else 0 := by
  unfold toggledTarget
  by_cases h : v = 0#8
  · subst h; rfl
  · have : v.toNat ≠ 0 := fun h0 => h (BitVec.eq_of_toNat_eq (by simpa using h0))
    simp [h, this]

theorem fadeCondition_eq (t : Byte) : fadeCondition t = decide (t.toNat % 32 = 0) := by
  revert t; decide

theorem fadeDifference_eq (target current : Byte) :
    fadeDifference target current = (target.toNat : Int) - current.toNat := by
  have ht := target.isLt
  have hc := current.isLt
  unfold fadeDifference
  rw [BitVec.toInt_sub, BitVec.toInt_eq_toNat_of_lt, BitVec.toInt_eq_toNat_of_lt]
  · simp only [BitVec.toNat_setWidth]
    rw [Nat.mod_eq_of_lt (by omega), Nat.mod_eq_of_lt (by omega)]
    rw [Int.bmod_eq_of_le (by omega) (by omega)]
  · simp only [BitVec.toNat_setWidth]; omega
  · simp only [BitVec.toNat_setWidth]; omega

/-- The store of FADE never wraps (43_color_fader.md R146). -/
theorem fadedLevel_toNat (target current : Byte) :
    ((fadedLevel target current).toNat : Int) =
      current.toNat + Int.sign ((target.toNat : Int) - current.toNat) := by
  have ht := target.isLt
  have hc := current.isLt
  unfold fadedLevel
  rw [fadeDifference_eq, BitVec.toNat_ofInt]
  rcases lt_trichotomy ((target.toNat : Int) - current.toNat) 0 with h | h | h
  · rw [Int.sign_eq_neg_one_of_neg h]; omega
  · rw [h]; simp only [Int.sign_zero]; omega
  · rw [Int.sign_eq_one_of_pos h]; omega

theorem commonMinimum_toNat (v : PerColour Byte) :
    (commonMinimum v).toNat = min v.red.toNat (min v.green.toNat v.blue.toNat) := by
  have := v.red.isLt
  simp only [commonMinimum, BitVec.toNat_ofNat]
  exact Nat.mod_eq_of_lt (by omega)

theorem decomposed_white_toNat (v : PerColour Byte) :
    ((decomposed v).get .white).toNat = min v.red.toNat (min v.green.toNat v.blue.toNat) :=
  commonMinimum_toNat v

/-- A residual is the Current Level less the minimum; it cannot go below 0 (44_rgbw_decomposer.md
R156). -/
theorem decomposed_colour_toNat (v : PerColour Byte) (c : Colour) :
    ((decomposed v).get c.out).toNat =
      (v.get c).toNat - min v.red.toNat (min v.green.toNat v.blue.toNat) := by
  have hm := commonMinimum_toNat v
  cases c <;>
    simp only [decomposed, Colour.out, PerOut.get, PerColour.get] <;>
    rw [BitVec.toNat_sub_of_le (by rw [BitVec.le_def, hm]; omega), hm]

theorem gammaIndex_eq (level : Byte) (h : level.toNat < 41) :
    gammaIndex level = some ⟨level.toNat, h⟩ := by
  simp [gammaIndex, h]

theorem gammaIndex_eq_none (level : Byte) (h : 40 < level.toNat) : gammaIndex level = none := by
  simp [gammaIndex, show ¬ level.toNat < 41 by omega]

theorem pwmQuotient_toNat (pwm : Byte) : (pwmQuotient pwm).toNat = pwm.toNat / 4 := by
  simp [pwmQuotient, Nat.shiftRight_eq_div_pow]

theorem ditherIndex_val (pwm : Byte) : (ditherIndex pwm).val = pwm.toNat % 4 := by
  simp [ditherIndex]

theorem ditherBitNumber_eq (t : Byte) : ditherBitNumber t = t.toNat % 8 := by
  simp [ditherBitNumber]

theorem patternBit_toNat (p : Byte) (n : Nat) : (patternBit p n).toNat = p.toNat / 2 ^ n % 2 := by
  simp [patternBit, Nat.shiftRight_eq_div_pow]

/-- No carry out of 8 bits (45_gamma_dither_pwm.md R170). -/
theorem dutyValue_toNat (pwm : Byte) (x : BitVec 1) :
    (dutyValue pwm x).toNat = pwm.toNat / 4 + x.toNat := by
  have hp := pwm.isLt
  have hx := x.isLt
  simp only [dutyValue, BitVec.toNat_add, BitVec.toNat_setWidth, pwmQuotient_toNat]
  omega

theorem nextTick_toNat (t : Byte) : (nextTick t).toNat = (t.toNat + 1) % 256 := by
  simp [nextTick, BitVec.toNat_add]

theorem newRpt_toNat (held : Bool) (rpt : BitVec 16) :
    (newRpt held rpt).toNat = if held then (rpt.toNat + 65535) % 65536 else 750 := by
  have := rpt.isLt
  cases held
  · rfl
  · simp only [newRpt, if_true, BitVec.toNat_sub, BitVec.toNat_ofNat]
    omega

end Sys2Proof.Machine
end

