-- ==== Sys2Proof/Laws/State.lean ====
section
/-! SUPPORT. For every named update of the state, what each field holds after it. -/

namespace Sys2Proof.Machine

section setLastPhase
variable (c : Colour) (v : PhaseCode) (s : State)

@[simp] theorem setLastPhase_lastPhase : (setLastPhase c v s).lastPhase = s.lastPhase.set c v := rfl
@[simp] theorem setLastPhase_target : (setLastPhase c v s).target = s.target := rfl
@[simp] theorem setLastPhase_current : (setLastPhase c v s).current = s.current := rfl
@[simp] theorem setLastPhase_ts : (setLastPhase c v s).ts = s.ts := rfl
@[simp] theorem setLastPhase_ct0 : (setLastPhase c v s).ct0 = s.ct0 := rfl
@[simp] theorem setLastPhase_ct1 : (setLastPhase c v s).ct1 = s.ct1 := rfl
@[simp] theorem setLastPhase_rpt : (setLastPhase c v s).rpt = s.rpt := rfl
@[simp] theorem setLastPhase_tick : (setLastPhase c v s).tick = s.tick := rfl
@[simp] theorem setLastPhase_duty : (setLastPhase c v s).duty = s.duty := rfl
@[simp] theorem setLastPhase_sig : (setLastPhase c v s).sig = s.sig := rfl
@[simp] theorem setLastPhase_ports : (setLastPhase c v s).ports = s.ports := rfl
@[simp] theorem setLastPhase_stimulus : (setLastPhase c v s).stimulus = s.stimulus := rfl

end setLastPhase

section setTarget
variable (c : Colour) (v : Byte) (s : State)

@[simp] theorem setTarget_lastPhase : (setTarget c v s).lastPhase = s.lastPhase := rfl
@[simp] theorem setTarget_target : (setTarget c v s).target = s.target.set c v := rfl
@[simp] theorem setTarget_current : (setTarget c v s).current = s.current := rfl
@[simp] theorem setTarget_ts : (setTarget c v s).ts = s.ts := rfl
@[simp] theorem setTarget_ct0 : (setTarget c v s).ct0 = s.ct0 := rfl
@[simp] theorem setTarget_ct1 : (setTarget c v s).ct1 = s.ct1 := rfl
@[simp] theorem setTarget_rpt : (setTarget c v s).rpt = s.rpt := rfl
@[simp] theorem setTarget_tick : (setTarget c v s).tick = s.tick := rfl
@[simp] theorem setTarget_duty : (setTarget c v s).duty = s.duty := rfl
@[simp] theorem setTarget_sig : (setTarget c v s).sig = s.sig := rfl
@[simp] theorem setTarget_ports : (setTarget c v s).ports = s.ports := rfl
@[simp] theorem setTarget_stimulus : (setTarget c v s).stimulus = s.stimulus := rfl

end setTarget

section setCurrent
variable (c : Colour) (v : Byte) (s : State)

@[simp] theorem setCurrent_lastPhase : (setCurrent c v s).lastPhase = s.lastPhase := rfl
@[simp] theorem setCurrent_target : (setCurrent c v s).target = s.target := rfl
@[simp] theorem setCurrent_current : (setCurrent c v s).current = s.current.set c v := rfl
@[simp] theorem setCurrent_ts : (setCurrent c v s).ts = s.ts := rfl
@[simp] theorem setCurrent_ct0 : (setCurrent c v s).ct0 = s.ct0 := rfl
@[simp] theorem setCurrent_ct1 : (setCurrent c v s).ct1 = s.ct1 := rfl
@[simp] theorem setCurrent_rpt : (setCurrent c v s).rpt = s.rpt := rfl
@[simp] theorem setCurrent_tick : (setCurrent c v s).tick = s.tick := rfl
@[simp] theorem setCurrent_duty : (setCurrent c v s).duty = s.duty := rfl
@[simp] theorem setCurrent_sig : (setCurrent c v s).sig = s.sig := rfl
@[simp] theorem setCurrent_ports : (setCurrent c v s).ports = s.ports := rfl
@[simp] theorem setCurrent_stimulus : (setCurrent c v s).stimulus = s.stimulus := rfl

end setCurrent

section setDuty
variable (k : OutChannel) (v : Byte) (s : State)

@[simp] theorem setDuty_lastPhase : (setDuty k v s).lastPhase = s.lastPhase := rfl
@[simp] theorem setDuty_target : (setDuty k v s).target = s.target := rfl
@[simp] theorem setDuty_current : (setDuty k v s).current = s.current := rfl
@[simp] theorem setDuty_ts : (setDuty k v s).ts = s.ts := rfl
@[simp] theorem setDuty_ct0 : (setDuty k v s).ct0 = s.ct0 := rfl
@[simp] theorem setDuty_ct1 : (setDuty k v s).ct1 = s.ct1 := rfl
@[simp] theorem setDuty_rpt : (setDuty k v s).rpt = s.rpt := rfl
@[simp] theorem setDuty_tick : (setDuty k v s).tick = s.tick := rfl
@[simp] theorem setDuty_duty : (setDuty k v s).duty = s.duty.set k v := rfl
@[simp] theorem setDuty_sig : (setDuty k v s).sig = s.sig := rfl
@[simp] theorem setDuty_ports : (setDuty k v s).ports = s.ports := rfl
@[simp] theorem setDuty_stimulus : (setDuty k v s).stimulus = s.stimulus := rfl

end setDuty

section setSignals
variable (g : Signals) (s : State)

@[simp] theorem setSignals_lastPhase : (setSignals g s).lastPhase = s.lastPhase := rfl
@[simp] theorem setSignals_target : (setSignals g s).target = s.target := rfl
@[simp] theorem setSignals_current : (setSignals g s).current = s.current := rfl
@[simp] theorem setSignals_ts : (setSignals g s).ts = s.ts := rfl
@[simp] theorem setSignals_ct0 : (setSignals g s).ct0 = s.ct0 := rfl
@[simp] theorem setSignals_ct1 : (setSignals g s).ct1 = s.ct1 := rfl
@[simp] theorem setSignals_rpt : (setSignals g s).rpt = s.rpt := rfl
@[simp] theorem setSignals_tick : (setSignals g s).tick = s.tick := rfl
@[simp] theorem setSignals_duty : (setSignals g s).duty = s.duty := rfl
@[simp] theorem setSignals_sig : (setSignals g s).sig = g := rfl
@[simp] theorem setSignals_ports : (setSignals g s).ports = s.ports := rfl
@[simp] theorem setSignals_stimulus : (setSignals g s).stimulus = s.stimulus := rfl

end setSignals

section presentWord
variable (w : InWord) (s : State)

@[simp] theorem presentWord_lastPhase : (presentWord w s).lastPhase = s.lastPhase := rfl
@[simp] theorem presentWord_target : (presentWord w s).target = s.target := rfl
@[simp] theorem presentWord_current : (presentWord w s).current = s.current := rfl
@[simp] theorem presentWord_ts : (presentWord w s).ts = s.ts := rfl
@[simp] theorem presentWord_ct0 : (presentWord w s).ct0 = s.ct0 := rfl
@[simp] theorem presentWord_ct1 : (presentWord w s).ct1 = s.ct1 := rfl
@[simp] theorem presentWord_rpt : (presentWord w s).rpt = s.rpt := rfl
@[simp] theorem presentWord_tick : (presentWord w s).tick = s.tick := rfl
@[simp] theorem presentWord_duty : (presentWord w s).duty = s.duty := rfl
@[simp] theorem presentWord_sig : (presentWord w s).sig = s.sig := rfl
@[simp] theorem presentWord_ports : (presentWord w s).ports = portsOfWord w := rfl
@[simp] theorem presentWord_stimulus : (presentWord w s).stimulus = s.stimulus := rfl

end presentWord

section tickEntry
variable (s : State)

@[simp] theorem tickEntry_lastPhase : (tickEntry s).lastPhase = s.lastPhase := rfl
@[simp] theorem tickEntry_target : (tickEntry s).target = s.target := rfl
@[simp] theorem tickEntry_current : (tickEntry s).current = s.current := rfl
@[simp] theorem tickEntry_ts : (tickEntry s).ts = s.ts := rfl
@[simp] theorem tickEntry_ct0 : (tickEntry s).ct0 = s.ct0 := rfl
@[simp] theorem tickEntry_ct1 : (tickEntry s).ct1 = s.ct1 := rfl
@[simp] theorem tickEntry_rpt : (tickEntry s).rpt = s.rpt := rfl
@[simp] theorem tickEntry_tick : (tickEntry s).tick = s.tick := rfl
@[simp] theorem tickEntry_duty : (tickEntry s).duty = s.duty := rfl
@[simp] theorem tickEntry_sig : (tickEntry s).sig = { s.sig with inWord := wordOfPorts s.ports, t := s.tick } := rfl
@[simp] theorem tickEntry_ports : (tickEntry s).ports = s.ports := rfl
@[simp] theorem tickEntry_stimulus : (tickEntry s).stimulus = s.stimulus := rfl

end tickEntry

section tickReturn
variable (s : State)

@[simp] theorem tickReturn_lastPhase : (tickReturn s).lastPhase = s.lastPhase := rfl
@[simp] theorem tickReturn_target : (tickReturn s).target = s.target := rfl
@[simp] theorem tickReturn_current : (tickReturn s).current = s.current := rfl
@[simp] theorem tickReturn_ts : (tickReturn s).ts = s.ts := rfl
@[simp] theorem tickReturn_ct0 : (tickReturn s).ct0 = s.ct0 := rfl
@[simp] theorem tickReturn_ct1 : (tickReturn s).ct1 = s.ct1 := rfl
@[simp] theorem tickReturn_rpt : (tickReturn s).rpt = s.rpt := rfl
@[simp] theorem tickReturn_tick : (tickReturn s).tick = s.tick := rfl
@[simp] theorem tickReturn_duty : (tickReturn s).duty = s.duty := rfl
@[simp] theorem tickReturn_sig : (tickReturn s).sig = Signals.dead := rfl
@[simp] theorem tickReturn_ports : (tickReturn s).ports = s.ports := rfl
@[simp] theorem tickReturn_stimulus : (tickReturn s).stimulus = s.stimulus := rfl

end tickReturn

section resetRegisters
variable (s : State)

@[simp] theorem resetRegisters_lastPhase : (resetRegisters s).lastPhase = State.reset.lastPhase := rfl
@[simp] theorem resetRegisters_target : (resetRegisters s).target = State.reset.target := rfl
@[simp] theorem resetRegisters_current : (resetRegisters s).current = State.reset.current := rfl
@[simp] theorem resetRegisters_ts : (resetRegisters s).ts = State.reset.ts := rfl
@[simp] theorem resetRegisters_ct0 : (resetRegisters s).ct0 = State.reset.ct0 := rfl
@[simp] theorem resetRegisters_ct1 : (resetRegisters s).ct1 = State.reset.ct1 := rfl
@[simp] theorem resetRegisters_rpt : (resetRegisters s).rpt = State.reset.rpt := rfl
@[simp] theorem resetRegisters_tick : (resetRegisters s).tick = State.reset.tick := rfl
@[simp] theorem resetRegisters_duty : (resetRegisters s).duty = State.reset.duty := rfl
@[simp] theorem resetRegisters_sig : (resetRegisters s).sig = State.reset.sig := rfl
@[simp] theorem resetRegisters_ports : (resetRegisters s).ports = s.ports := rfl
@[simp] theorem resetRegisters_stimulus : (resetRegisters s).stimulus = s.stimulus := rfl

end resetRegisters

section popRequest
variable (s : State)

@[simp] theorem popRequest_lastPhase : (popRequest s).lastPhase = s.lastPhase := rfl
@[simp] theorem popRequest_target : (popRequest s).target = s.target := rfl
@[simp] theorem popRequest_current : (popRequest s).current = s.current := rfl
@[simp] theorem popRequest_ts : (popRequest s).ts = s.ts := rfl
@[simp] theorem popRequest_ct0 : (popRequest s).ct0 = s.ct0 := rfl
@[simp] theorem popRequest_ct1 : (popRequest s).ct1 = s.ct1 := rfl
@[simp] theorem popRequest_rpt : (popRequest s).rpt = s.rpt := rfl
@[simp] theorem popRequest_tick : (popRequest s).tick = s.tick := rfl
@[simp] theorem popRequest_duty : (popRequest s).duty = s.duty := rfl
@[simp] theorem popRequest_sig : (popRequest s).sig = s.sig := rfl
@[simp] theorem popRequest_ports : (popRequest s).ports = s.ports := rfl
@[simp] theorem popRequest_stimulus : (popRequest s).stimulus = s.stimulus.tail := rfl

end popRequest

end Sys2Proof.Machine
end

