-- ==== Sys2Proof/Laws/Ops.lean ====
section
/-! SUPPORT. For every shared operation, what it leaves unchanged (simp lemmas, one per field), what it
writes (one lemma per operation), and what its outcome can be. -/

namespace Sys2Proof.Machine

open Sys2Proof

theorem andThen_eq_next {r : Result} {f : State → Result} {t : State} (h : andThen r f = .next t) :
    ∃ u, r = .next u ∧ f u = .next t := by
  cases r with
  | next u => exact ⟨u, rfl, h⟩
  | fault e => cases h
  | refused e => cases h

theorem andThen_eq_fault {r : Result} {f : State → Result} {e : Fault}
    (h : andThen r f = .fault e) : r = .fault e ∨ ∃ u, r = .next u ∧ f u = .fault e := by
  cases r with
  | next u => exact .inr ⟨u, rfl, h⟩
  | fault e' => exact .inl h
  | refused e' => cases h

@[simp] theorem andThen_next (s : State) (f : State → Result) : andThen (.next s) f = f s := rfl

@[simp] theorem andThen_fault (e : Fault) (f : State → Result) :
    andThen (.fault e) f = .fault e := rfl

section phaseOp
variable (c : Colour) (s : State)

@[simp] theorem phaseOp_lastPhase : (phaseOp c s).lastPhase = s.lastPhase := rfl
@[simp] theorem phaseOp_target : (phaseOp c s).target = s.target := rfl
@[simp] theorem phaseOp_current : (phaseOp c s).current = s.current := rfl
@[simp] theorem phaseOp_ts : (phaseOp c s).ts = s.ts := rfl
@[simp] theorem phaseOp_ct0 : (phaseOp c s).ct0 = s.ct0 := rfl
@[simp] theorem phaseOp_ct1 : (phaseOp c s).ct1 = s.ct1 := rfl
@[simp] theorem phaseOp_rpt : (phaseOp c s).rpt = s.rpt := rfl
@[simp] theorem phaseOp_tick : (phaseOp c s).tick = s.tick := rfl
@[simp] theorem phaseOp_duty : (phaseOp c s).duty = s.duty := rfl
@[simp] theorem phaseOp_ports : (phaseOp c s).ports = s.ports := rfl
@[simp] theorem phaseOp_stimulus : (phaseOp c s).stimulus = s.stimulus := rfl

end phaseOp

section qdecOp
variable (c : Colour) (s : State)

@[simp] theorem qdecOp_target : (qdecOp c s).target = s.target := rfl
@[simp] theorem qdecOp_current : (qdecOp c s).current = s.current := rfl
@[simp] theorem qdecOp_ts : (qdecOp c s).ts = s.ts := rfl
@[simp] theorem qdecOp_ct0 : (qdecOp c s).ct0 = s.ct0 := rfl
@[simp] theorem qdecOp_ct1 : (qdecOp c s).ct1 = s.ct1 := rfl
@[simp] theorem qdecOp_rpt : (qdecOp c s).rpt = s.rpt := rfl
@[simp] theorem qdecOp_tick : (qdecOp c s).tick = s.tick := rfl
@[simp] theorem qdecOp_duty : (qdecOp c s).duty = s.duty := rfl
@[simp] theorem qdecOp_ports : (qdecOp c s).ports = s.ports := rfl
@[simp] theorem qdecOp_stimulus : (qdecOp c s).stimulus = s.stimulus := rfl

end qdecOp

section tstepOp
variable (c : Colour) (s : State)

@[simp] theorem tstepOp_lastPhase : (tstepOp c s).lastPhase = s.lastPhase := rfl
@[simp] theorem tstepOp_current : (tstepOp c s).current = s.current := rfl
@[simp] theorem tstepOp_ts : (tstepOp c s).ts = s.ts := rfl
@[simp] theorem tstepOp_ct0 : (tstepOp c s).ct0 = s.ct0 := rfl
@[simp] theorem tstepOp_ct1 : (tstepOp c s).ct1 = s.ct1 := rfl
@[simp] theorem tstepOp_rpt : (tstepOp c s).rpt = s.rpt := rfl
@[simp] theorem tstepOp_tick : (tstepOp c s).tick = s.tick := rfl
@[simp] theorem tstepOp_duty : (tstepOp c s).duty = s.duty := rfl
@[simp] theorem tstepOp_sig : (tstepOp c s).sig = s.sig := rfl
@[simp] theorem tstepOp_ports : (tstepOp c s).ports = s.ports := rfl
@[simp] theorem tstepOp_stimulus : (tstepOp c s).stimulus = s.stimulus := rfl

end tstepOp

section ttoggleOp
variable (c : Colour) (s : State)

@[simp] theorem ttoggleOp_lastPhase : (ttoggleOp c s).lastPhase = s.lastPhase := by
  unfold ttoggleOp; split <;> rfl
@[simp] theorem ttoggleOp_current : (ttoggleOp c s).current = s.current := by
  unfold ttoggleOp; split <;> rfl
@[simp] theorem ttoggleOp_ts : (ttoggleOp c s).ts = s.ts := by
  unfold ttoggleOp; split <;> rfl
@[simp] theorem ttoggleOp_ct0 : (ttoggleOp c s).ct0 = s.ct0 := by
  unfold ttoggleOp; split <;> rfl
@[simp] theorem ttoggleOp_ct1 : (ttoggleOp c s).ct1 = s.ct1 := by
  unfold ttoggleOp; split <;> rfl
@[simp] theorem ttoggleOp_rpt : (ttoggleOp c s).rpt = s.rpt := by
  unfold ttoggleOp; split <;> rfl
@[simp] theorem ttoggleOp_tick : (ttoggleOp c s).tick = s.tick := by
  unfold ttoggleOp; split <;> rfl
@[simp] theorem ttoggleOp_duty : (ttoggleOp c s).duty = s.duty := by
  unfold ttoggleOp; split <;> rfl
@[simp] theorem ttoggleOp_sig : (ttoggleOp c s).sig = s.sig := by
  unfold ttoggleOp; split <;> rfl
@[simp] theorem ttoggleOp_ports : (ttoggleOp c s).ports = s.ports := by
  unfold ttoggleOp; split <;> rfl
@[simp] theorem ttoggleOp_stimulus : (ttoggleOp c s).stimulus = s.stimulus := by
  unfold ttoggleOp; split <;> rfl

end ttoggleOp

section tclearOp
variable (s : State)

@[simp] theorem tclearOp_lastPhase : (tclearOp s).lastPhase = s.lastPhase := by
  unfold tclearOp; split <;> rfl
@[simp] theorem tclearOp_current : (tclearOp s).current = s.current := by
  unfold tclearOp; split <;> rfl
@[simp] theorem tclearOp_ts : (tclearOp s).ts = s.ts := by
  unfold tclearOp; split <;> rfl
@[simp] theorem tclearOp_ct0 : (tclearOp s).ct0 = s.ct0 := by
  unfold tclearOp; split <;> rfl
@[simp] theorem tclearOp_ct1 : (tclearOp s).ct1 = s.ct1 := by
  unfold tclearOp; split <;> rfl
@[simp] theorem tclearOp_rpt : (tclearOp s).rpt = s.rpt := by
  unfold tclearOp; split <;> rfl
@[simp] theorem tclearOp_tick : (tclearOp s).tick = s.tick := by
  unfold tclearOp; split <;> rfl
@[simp] theorem tclearOp_duty : (tclearOp s).duty = s.duty := by
  unfold tclearOp; split <;> rfl
@[simp] theorem tclearOp_sig : (tclearOp s).sig = s.sig := by
  unfold tclearOp; split <;> rfl
@[simp] theorem tclearOp_ports : (tclearOp s).ports = s.ports := by
  unfold tclearOp; split <;> rfl
@[simp] theorem tclearOp_stimulus : (tclearOp s).stimulus = s.stimulus := by
  unfold tclearOp; split <;> rfl

end tclearOp

section debounceOp
variable (s : State)

@[simp] theorem debounceOp_lastPhase : (debounceOp s).lastPhase = s.lastPhase := rfl
@[simp] theorem debounceOp_target : (debounceOp s).target = s.target := rfl
@[simp] theorem debounceOp_current : (debounceOp s).current = s.current := rfl
@[simp] theorem debounceOp_rpt : (debounceOp s).rpt = s.rpt := rfl
@[simp] theorem debounceOp_tick : (debounceOp s).tick = s.tick := rfl
@[simp] theorem debounceOp_duty : (debounceOp s).duty = s.duty := rfl
@[simp] theorem debounceOp_ports : (debounceOp s).ports = s.ports := rfl
@[simp] theorem debounceOp_stimulus : (debounceOp s).stimulus = s.stimulus := rfl

end debounceOp

section pressOp
variable (s : State)

@[simp] theorem pressOp_lastPhase : (pressOp s).lastPhase = s.lastPhase := rfl
@[simp] theorem pressOp_target : (pressOp s).target = s.target := rfl
@[simp] theorem pressOp_current : (pressOp s).current = s.current := rfl
@[simp] theorem pressOp_ts : (pressOp s).ts = s.ts := rfl
@[simp] theorem pressOp_ct0 : (pressOp s).ct0 = s.ct0 := rfl
@[simp] theorem pressOp_ct1 : (pressOp s).ct1 = s.ct1 := rfl
@[simp] theorem pressOp_rpt : (pressOp s).rpt = s.rpt := rfl
@[simp] theorem pressOp_tick : (pressOp s).tick = s.tick := rfl
@[simp] theorem pressOp_duty : (pressOp s).duty = s.duty := rfl
@[simp] theorem pressOp_ports : (pressOp s).ports = s.ports := rfl
@[simp] theorem pressOp_stimulus : (pressOp s).stimulus = s.stimulus := rfl

end pressOp

section longpressOp
variable (s : State)

@[simp] theorem longpressOp_lastPhase : (longpressOp s).lastPhase = s.lastPhase := rfl
@[simp] theorem longpressOp_target : (longpressOp s).target = s.target := rfl
@[simp] theorem longpressOp_current : (longpressOp s).current = s.current := rfl
@[simp] theorem longpressOp_ts : (longpressOp s).ts = s.ts := rfl
@[simp] theorem longpressOp_ct0 : (longpressOp s).ct0 = s.ct0 := rfl
@[simp] theorem longpressOp_ct1 : (longpressOp s).ct1 = s.ct1 := rfl
@[simp] theorem longpressOp_tick : (longpressOp s).tick = s.tick := rfl
@[simp] theorem longpressOp_duty : (longpressOp s).duty = s.duty := rfl
@[simp] theorem longpressOp_ports : (longpressOp s).ports = s.ports := rfl
@[simp] theorem longpressOp_stimulus : (longpressOp s).stimulus = s.stimulus := rfl

end longpressOp

section fadeOp
variable (c : Colour) (s : State)

@[simp] theorem fadeOp_lastPhase : (fadeOp c s).lastPhase = s.lastPhase := by
  unfold fadeOp; split <;> rfl
@[simp] theorem fadeOp_target : (fadeOp c s).target = s.target := by
  unfold fadeOp; split <;> rfl
@[simp] theorem fadeOp_ts : (fadeOp c s).ts = s.ts := by
  unfold fadeOp; split <;> rfl
@[simp] theorem fadeOp_ct0 : (fadeOp c s).ct0 = s.ct0 := by
  unfold fadeOp; split <;> rfl
@[simp] theorem fadeOp_ct1 : (fadeOp c s).ct1 = s.ct1 := by
  unfold fadeOp; split <;> rfl
@[simp] theorem fadeOp_rpt : (fadeOp c s).rpt = s.rpt := by
  unfold fadeOp; split <;> rfl
@[simp] theorem fadeOp_tick : (fadeOp c s).tick = s.tick := by
  unfold fadeOp; split <;> rfl
@[simp] theorem fadeOp_duty : (fadeOp c s).duty = s.duty := by
  unfold fadeOp; split <;> rfl
@[simp] theorem fadeOp_sig : (fadeOp c s).sig = s.sig := by
  unfold fadeOp; split <;> rfl
@[simp] theorem fadeOp_ports : (fadeOp c s).ports = s.ports := by
  unfold fadeOp; split <;> rfl
@[simp] theorem fadeOp_stimulus : (fadeOp c s).stimulus = s.stimulus := by
  unfold fadeOp; split <;> rfl

end fadeOp

section decompOp
variable (s : State)

@[simp] theorem decompOp_lastPhase : (decompOp s).lastPhase = s.lastPhase := rfl
@[simp] theorem decompOp_target : (decompOp s).target = s.target := rfl
@[simp] theorem decompOp_current : (decompOp s).current = s.current := rfl
@[simp] theorem decompOp_ts : (decompOp s).ts = s.ts := rfl
@[simp] theorem decompOp_ct0 : (decompOp s).ct0 = s.ct0 := rfl
@[simp] theorem decompOp_ct1 : (decompOp s).ct1 = s.ct1 := rfl
@[simp] theorem decompOp_rpt : (decompOp s).rpt = s.rpt := rfl
@[simp] theorem decompOp_tick : (decompOp s).tick = s.tick := rfl
@[simp] theorem decompOp_duty : (decompOp s).duty = s.duty := rfl
@[simp] theorem decompOp_ports : (decompOp s).ports = s.ports := rfl
@[simp] theorem decompOp_stimulus : (decompOp s).stimulus = s.stimulus := rfl

end decompOp

section ditherOp
variable (T : Config.Tables) (k : OutChannel) (s : State)

@[simp] theorem ditherOp_lastPhase : (ditherOp T k s).lastPhase = s.lastPhase := rfl
@[simp] theorem ditherOp_target : (ditherOp T k s).target = s.target := rfl
@[simp] theorem ditherOp_current : (ditherOp T k s).current = s.current := rfl
@[simp] theorem ditherOp_ts : (ditherOp T k s).ts = s.ts := rfl
@[simp] theorem ditherOp_ct0 : (ditherOp T k s).ct0 = s.ct0 := rfl
@[simp] theorem ditherOp_ct1 : (ditherOp T k s).ct1 = s.ct1 := rfl
@[simp] theorem ditherOp_rpt : (ditherOp T k s).rpt = s.rpt := rfl
@[simp] theorem ditherOp_tick : (ditherOp T k s).tick = s.tick := rfl
@[simp] theorem ditherOp_duty : (ditherOp T k s).duty = s.duty := rfl
@[simp] theorem ditherOp_ports : (ditherOp T k s).ports = s.ports := rfl
@[simp] theorem ditherOp_stimulus : (ditherOp T k s).stimulus = s.stimulus := rfl

end ditherOp

section dutyOp
variable (k : OutChannel) (s : State)

@[simp] theorem dutyOp_lastPhase : (dutyOp k s).lastPhase = s.lastPhase := rfl
@[simp] theorem dutyOp_target : (dutyOp k s).target = s.target := rfl
@[simp] theorem dutyOp_current : (dutyOp k s).current = s.current := rfl
@[simp] theorem dutyOp_ts : (dutyOp k s).ts = s.ts := rfl
@[simp] theorem dutyOp_ct0 : (dutyOp k s).ct0 = s.ct0 := rfl
@[simp] theorem dutyOp_ct1 : (dutyOp k s).ct1 = s.ct1 := rfl
@[simp] theorem dutyOp_rpt : (dutyOp k s).rpt = s.rpt := rfl
@[simp] theorem dutyOp_tick : (dutyOp k s).tick = s.tick := rfl
@[simp] theorem dutyOp_sig : (dutyOp k s).sig = s.sig := rfl
@[simp] theorem dutyOp_ports : (dutyOp k s).ports = s.ports := rfl
@[simp] theorem dutyOp_stimulus : (dutyOp k s).stimulus = s.stimulus := rfl

end dutyOp

section tickincOp
variable (s : State)

@[simp] theorem tickincOp_lastPhase : (tickincOp s).lastPhase = s.lastPhase := rfl
@[simp] theorem tickincOp_target : (tickincOp s).target = s.target := rfl
@[simp] theorem tickincOp_current : (tickincOp s).current = s.current := rfl
@[simp] theorem tickincOp_ts : (tickincOp s).ts = s.ts := rfl
@[simp] theorem tickincOp_ct0 : (tickincOp s).ct0 = s.ct0 := rfl
@[simp] theorem tickincOp_ct1 : (tickincOp s).ct1 = s.ct1 := rfl
@[simp] theorem tickincOp_rpt : (tickincOp s).rpt = s.rpt := rfl
@[simp] theorem tickincOp_duty : (tickincOp s).duty = s.duty := rfl
@[simp] theorem tickincOp_sig : (tickincOp s).sig = s.sig := rfl
@[simp] theorem tickincOp_ports : (tickincOp s).ports = s.ports := rfl
@[simp] theorem tickincOp_stimulus : (tickincOp s).stimulus = s.stimulus := rfl

end tickincOp

/-! What each operation writes. -/

theorem phaseOp_sig (c : Colour) (s : State) :
    (phaseOp c s).sig =
      { s.sig with
        curPhase := s.sig.curPhase.set c
          (phaseCode (inA s.sig.inWord c) (inB s.sig.inWord c)) } := rfl

theorem qdecOp_lastPhase (c : Colour) (s : State) :
    (qdecOp c s).lastPhase = s.lastPhase.set c (s.sig.curPhase.get c) := rfl

theorem qdecOp_sig (c : Colour) (s : State) :
    (qdecOp c s).sig =
      { s.sig with
        diff := s.sig.diff.set c (phaseDiff (s.lastPhase.get c) (s.sig.curPhase.get c))
        move := (s.sig.move.set c
          (moveOfDiff (phaseDiff (s.lastPhase.get c) (s.sig.curPhase.get c)))) } := rfl

theorem tstepOp_target (c : Colour) (s : State) :
    (tstepOp c s).target = s.target.set c (steppedTarget (s.sig.move.get c) (s.target.get c)) := rfl

theorem ttoggleOp_target (c : Colour) (s : State) :
    (ttoggleOp c s).target =
      if lane s.sig.pressed c then s.target.set c (toggledTarget (s.target.get c)) else s.target := by
  unfold ttoggleOp; split <;> rfl

theorem tclearOp_target (s : State) :
    (tclearOp s).target = if s.sig.fire then .all 0#8 else s.target := by
  unfold tclearOp; split <;> rfl

theorem debounceOp_ct0 (s : State) :
    (debounceOp s).ct0 = newCt0 s.ct0 (rawChange s.ts (pressedLevels s.sig.inWord)) := rfl

theorem debounceOp_ct1 (s : State) :
    (debounceOp s).ct1 = newCt1 (debounceOp s).ct0 s.ct1 := rfl

theorem debounceOp_ts (s : State) :
    (debounceOp s).ts = newTs s.ts
      (acceptedLanes (rawChange s.ts (pressedLevels s.sig.inWord)) (debounceOp s).ct0
        (debounceOp s).ct1) := rfl

theorem debounceOp_sig (s : State) :
    (debounceOp s).sig =
      { s.sig with
        rawChange := rawChange s.ts (pressedLevels s.sig.inWord)
        accepted := (acceptedLanes (rawChange s.ts (pressedLevels s.sig.inWord)) (debounceOp s).ct0
          (debounceOp s).ct1) } := rfl

theorem pressOp_sig (s : State) :
    (pressOp s).sig = { s.sig with pressed := pressedLanes s.ts s.sig.accepted } := rfl

theorem longpressOp_rpt (s : State) :
    (longpressOp s).rpt = newRpt (anyHeld s.ts) s.rpt := rfl

theorem longpressOp_sig (s : State) :
    (longpressOp s).sig =
      { s.sig with held := anyHeld s.ts
                   fire := longPressFires (anyHeld s.ts) (newRpt (anyHeld s.ts) s.rpt) } := rfl

theorem fadeOp_current (c : Colour) (s : State) :
    (fadeOp c s).current =
      if fadeCondition s.sig.t then s.current.set c (fadedLevel (s.target.get c) (s.current.get c))
      else s.current := by
  unfold fadeOp; split <;> rfl

theorem decompOp_sig (s : State) :
    (decompOp s).sig = { s.sig with level := decomposed s.current } := rfl

theorem ditherOp_sig (T : Config.Tables) (k : OutChannel) (s : State) :
    (ditherOp T k s).sig =
      { s.sig with
        x := s.sig.x.set k
          (patternBit (readDither T (s.sig.pwm.get k)) (ditherBitNumber s.sig.t)) } := rfl

theorem dutyOp_duty (k : OutChannel) (s : State) :
    (dutyOp k s).duty = s.duty.set k (dutyValue (s.sig.pwm.get k) (s.sig.x.get k)) := rfl

theorem tickincOp_tick (s : State) : (tickincOp s).tick = nextTick s.sig.t := rfl

/-! The one operation that can fault, and the stages built on it. -/

/-- GAMMA on an index with an entry reads it. -/
theorem gammaOp_next (T : Config.Tables) (k : OutChannel) (s : State)
    (h : (s.sig.level.get k).toNat < 41) :
    gammaOp T k s =
      .next (setSignals { s.sig with pwm := s.sig.pwm.set k (T.gamma ⟨_, h⟩) } s) := by
  simp [gammaOp, readGamma, gammaIndex_eq _ h]

/-- GAMMA on an index above 40 faults. -/
theorem gammaOp_fault (T : Config.Tables) (k : OutChannel) (s : State)
    (h : 40 < (s.sig.level.get k).toNat) :
    gammaOp T k s = .fault (.gammaIndexOutOfRange k (s.sig.level.get k)) := by
  simp [gammaOp, readGamma, gammaIndex_eq_none _ h, raiseGammaIndexOutOfRange]

/-- Everything GAMMA can do. -/
theorem gammaOp_cases (T : Config.Tables) (k : OutChannel) (s : State) :
    (∃ h : (s.sig.level.get k).toNat < 41, gammaOp T k s =
        .next (setSignals { s.sig with pwm := s.sig.pwm.set k (T.gamma ⟨_, h⟩) } s)) ∨
    (40 < (s.sig.level.get k).toNat ∧
      gammaOp T k s = .fault (.gammaIndexOutOfRange k (s.sig.level.get k))) := by
  by_cases h : (s.sig.level.get k).toNat < 41
  · exact .inl ⟨h, gammaOp_next T k s h⟩
  · exact .inr ⟨by omega, gammaOp_fault T k s (by omega)⟩

/-- `PWMENC(level, t)` of 45_gamma_dither_pwm.md R171, for a level with a table entry. -/
def pwmEncoded (T : Config.Tables) (level t : Byte) : Byte :=
  let pwm := T.gamma (Fin.ofNat 41 level.toNat)
  dutyValue pwm (patternBit (readDither T pwm) (ditherBitNumber t))

theorem gamma_fin_eq (T : Config.Tables) (level : Byte) (h : level.toNat < 41) :
    T.gamma ⟨level.toNat, h⟩ = T.gamma (Fin.ofNat 41 level.toNat) := by
  congr 1
  exact Fin.ext (Nat.mod_eq_of_lt h).symm

/-- The three slots of one output channel write its duty and nothing else but signals. -/
theorem pwmChannel_next (T : Config.Tables) (k : OutChannel) (s : State) {L : PerOut Byte} {t : Byte}
    (hL : s.sig.level = L) (ht : s.sig.t = t) (h : (L.get k).toNat < 41) :
    ∃ g : Signals, g.level = L ∧ g.t = t ∧
      pwmChannel T k s = .next { s with
        sig := g
        duty := s.duty.set k (pwmEncoded T (L.get k) t) } := by
  subst hL ht
  refine ⟨{ s.sig with
      pwm := s.sig.pwm.set k (T.gamma ⟨_, h⟩)
      x := s.sig.x.set k
        (patternBit (readDither T (T.gamma ⟨_, h⟩)) (ditherBitNumber s.sig.t)) }, rfl, rfl, ?_⟩
  simp only [pwmChannel, gammaOp_next T k s h, andThen_next]
  simp [dutyOp, ditherOp, pwmEncoded, setSignals, setDuty, gamma_fin_eq]

/-- The twelve slots of the PWM stage, when every level has a table entry. -/
theorem pwmStage_next (T : Config.Tables) (s : State) {L : PerOut Byte} {t : Byte}
    (hL : s.sig.level = L) (ht : s.sig.t = t) (h : ∀ k, (L.get k).toNat < 41) :
    ∃ g : Signals, g.t = t ∧ pwmStage T s = .next { s with
      sig := g
      duty := ⟨pwmEncoded T L.red t, pwmEncoded T L.green t, pwmEncoded T L.blue t,
        pwmEncoded T L.white t⟩ } := by
  obtain ⟨g1, hl1, ht1, e1⟩ := pwmChannel_next T .red s hL ht (h .red)
  obtain ⟨g2, hl2, ht2, e2⟩ := pwmChannel_next T .green { s with
    sig := g1, duty := s.duty.set .red (pwmEncoded T L.red t) } hl1 ht1 (h .green)
  obtain ⟨g3, hl3, ht3, e3⟩ := pwmChannel_next T .blue { s with
    sig := g2, duty := (s.duty.set .red (pwmEncoded T L.red t)).set .green
      (pwmEncoded T L.green t) } hl2 ht2 (h .blue)
  obtain ⟨g4, hl4, ht4, e4⟩ := pwmChannel_next T .white { s with
    sig := g3, duty := ((s.duty.set .red (pwmEncoded T L.red t)).set .green
      (pwmEncoded T L.green t)).set .blue (pwmEncoded T L.blue t) } hl3 ht3 (h .white)
  refine ⟨g4, ht4, ?_⟩
  simp only [PerOut.get] at e1 e2 e3 e4
  simp only [pwmStage, e1, e2, e3, e4, andThen_next]
  simp [PerOut.set]

end Sys2Proof.Machine
end

