-- ==== Sys2Proof/Laws/PerInstr.lean ====
section
/-! SUPPORT. The statements made for every instruction as syntax, one lemma per constructor. -/

namespace Sys2Proof.Laws.EncodingShape

/-- The request that stands for an instruction is well-formed (30_encoding.md R85, R86), and its word
is one byte for an operation, two for TICK and none for RESET. -/
def Statement (i : Instr) : Prop :=
  (encode i).wellFormed = true ∧
  (encode i).word.length =
    (match i with
      | .tick _ => 2
      | .reset => 0
      | _ => 1)

theorem sample : Statement .sample := ⟨rfl, rfl⟩
theorem phase (c : Colour) : Statement (.phase c) := by cases c <;> exact ⟨rfl, rfl⟩
theorem qdec (c : Colour) : Statement (.qdec c) := by cases c <;> exact ⟨rfl, rfl⟩
theorem tstep (c : Colour) : Statement (.tstep c) := by cases c <;> exact ⟨rfl, rfl⟩
theorem debounce : Statement .debounce := ⟨rfl, rfl⟩
theorem press : Statement .press := ⟨rfl, rfl⟩
theorem ttoggle (c : Colour) : Statement (.ttoggle c) := by cases c <;> exact ⟨rfl, rfl⟩
theorem longpress : Statement .longpress := ⟨rfl, rfl⟩
theorem tclear : Statement .tclear := ⟨rfl, rfl⟩
theorem fade (c : Colour) : Statement (.fade c) := by cases c <;> exact ⟨rfl, rfl⟩
theorem decomp : Statement .decomp := ⟨rfl, rfl⟩
theorem gamma (k : OutChannel) : Statement (.gamma k) := by cases k <;> exact ⟨rfl, rfl⟩
theorem dither (k : OutChannel) : Statement (.dither k) := by cases k <;> exact ⟨rfl, rfl⟩
theorem duty (k : OutChannel) : Statement (.duty k) := by cases k <;> exact ⟨rfl, rfl⟩
theorem tickinc : Statement .tickinc := ⟨rfl, rfl⟩
theorem tick (w : InWord) : Statement (.tick w) := by
  have h := (w.extractLsb' 8 1).isLt
  refine ⟨?_, rfl⟩
  simp only [encode, tickRequest, Request.wellFormed, Bool.false_or, decide_eq_true_eq,
    BitVec.toNat_setWidth]
  omega
theorem reset : Statement .reset := ⟨rfl, rfl⟩

end Sys2Proof.Laws.EncodingShape
end

