-- ==== Sys2Proof/Laws/Run.lean ====
section
/-! SUPPORT. Runs of a machine unrolled by one step, for any machine and then for CORE, and what a step
can be. -/

namespace Sys2Proof.Laws

theorem run_zero (M : Host.Core) (s : M.State) : M.run 0 s = .next s := rfl

theorem run_succ_of_next (M : Host.Core) (n : Nat) (s t : M.State) (h : M.step s = .next t) :
    M.run (n + 1) s = M.run n t := by
  simp only [Host.Core.run, h]

theorem run_succ_of_fault (M : Host.Core) (n : Nat) (s : M.State) (e : M.Fault)
    (h : M.step s = .fault e) : M.run (n + 1) s = .fault e := by
  simp only [Host.Core.run, h]

theorem run_succ_of_refused (M : Host.Core) (n : Nat) (s : M.State) (e : M.Refusal)
    (h : M.step s = .refused e) : M.run (n + 1) s = .refused e := by
  simp only [Host.Core.run, h]

end Sys2Proof.Laws

namespace Sys2Proof.Machine

theorem core_run_next {s t : State} (n : Nat) (h : step s = .next t) :
    Host.Core.run Sys2Proof.core (n + 1) s = Host.Core.run Sys2Proof.core n t :=
  Sys2Proof.Laws.run_succ_of_next Sys2Proof.core n s t h

theorem core_run_fault {s : State} {e : Fault} (n : Nat) (h : step s = .fault e) :
    Host.Core.run Sys2Proof.core (n + 1) s = .fault e :=
  Sys2Proof.Laws.run_succ_of_fault Sys2Proof.core n s e h

theorem core_run_refused {s : State} {e : Refusal} (n : Nat) (h : step s = .refused e) :
    Host.Core.run Sys2Proof.core (n + 1) s = .refused e :=
  Sys2Proof.Laws.run_succ_of_refused Sys2Proof.core n s e h

/-- Everything a step can be: an idle step, an instruction run, or a refusal of a word. -/
theorem step_cases (s : State) :
    step s = .next (popRequest s) ∨ (∃ i, step s = exec i (popRequest s)) ∨
      ∃ e, step s = .refused (.undecodable e) := by
  unfold step
  split
  · exact .inl rfl
  · split
    · exact .inr (.inl ⟨_, rfl⟩)
    · exact .inr (.inr ⟨_, rfl⟩)

@[simp] theorem runTicks_nil (s : State) : runTicks [] s = .next s := rfl

@[simp] theorem runTicks_cons (w : InWord) (ws : List InWord) (s : State) :
    runTicks (w :: ws) s = andThen (exec (.tick w) s) (runTicks ws) := rfl

@[simp] theorem runInstrs_nil (s : State) : runInstrs [] s = .next s := rfl

@[simp] theorem runInstrs_cons (i : Instr) (is : List Instr) (s : State) :
    runInstrs (i :: is) s = andThen (exec i s) (runInstrs is) := rfl

end Sys2Proof.Machine
end

