-- ==== Sys2Proof/Laws/Tick.lean ====
section
/-! SUPPORT. What slots 0 to 20 of a tick leave in each register and signal, one lemma per field, in the
terms of the one-piece pseudocode (46_tick_dispatcher.md R183). A statement about a whole tick cites
these and `pwmStage_next`, and unfolds no stage. -/

namespace Sys2Proof.Machine

open Sys2Proof

theorem anyHeld_eq (v : Lanes) : anyHeld v = decide (v ≠ 0#3) := by revert v; decide

section levelStages
variable (w : InWord) (s : State)

theorem levelStages_lastPhase (c : Colour) :
    (levelStages (presentWord w s)).lastPhase.get c = phaseCode (inA w c) (inB w c) := by
  cases c <;>
    simp [levelStages, buttonStage, encoderStage, encoderChannel, faderStage, qdecOp_lastPhase,
      qdecOp_sig, phaseOp_sig]

theorem levelStages_ts : (levelStages (presentWord w s)).ts = pseudoTs w s := by
  simp [levelStages, buttonStage, encoderStage, encoderChannel, faderStage, debounceOp_ts,
    debounceOp_ct0, debounceOp_ct1, qdecOp_sig, phaseOp_sig, pseudoTs, pseudoAccepted, pseudoRawChange, pseudoCt0, pseudoCt1, rawChange, newCt0,
    newCt1, newTs, acceptedLanes, pressedLevels, rawLanes]

theorem levelStages_ct0 : (levelStages (presentWord w s)).ct0 = pseudoCt0 w s := by
  simp [levelStages, buttonStage, encoderStage, encoderChannel, faderStage, debounceOp_ct0, qdecOp_sig,
    phaseOp_sig, pseudoRawChange, pseudoCt0, rawChange, newCt0, pressedLevels, rawLanes]

theorem levelStages_ct1 : (levelStages (presentWord w s)).ct1 = pseudoCt1 w s := by
  simp [levelStages, buttonStage, encoderStage, encoderChannel, faderStage, debounceOp_ct0,
    debounceOp_ct1, qdecOp_sig,
    phaseOp_sig, pseudoRawChange, pseudoCt0, pseudoCt1, rawChange, newCt0, newCt1, pressedLevels,
    rawLanes]

theorem levelStages_rpt : (levelStages (presentWord w s)).rpt.toNat = pseudoRpt w s := by
  have h : (levelStages (presentWord w s)).rpt = newRpt (anyHeld (pseudoTs w s)) s.rpt := by
    rw [← levelStages_ts]
    simp [levelStages, buttonStage, faderStage, longpressOp_rpt, encoderStage, encoderChannel]
  rw [h, newRpt_toNat, anyHeld_eq]
  unfold pseudoRpt
  by_cases h0 : pseudoTs w s = 0#3 <;> simp [h0]

/-- The targets after the encoders, slots 1 to 9. -/
theorem encoderStage_target (c : Colour) :
    ((encoderStage (tickEntry (presentWord w s))).target.get c).toNat = pseudoStepped w s c := by
  have h : (encoderStage (tickEntry (presentWord w s))).target.get c =
      steppedTarget (moveOfDiff (phaseDiff (s.lastPhase.get c) (phaseCode (inA w c) (inB w c))))
        (s.target.get c) := by
    cases c <;>
      simp [encoderStage, encoderChannel, tstepOp_target, qdecOp_lastPhase, qdecOp_sig, phaseOp_sig]
  rw [h, steppedTarget_toNat, moveOfDiff_eq, phaseDiff_toNat, phaseCode_toNat]
  unfold pseudoStepped pseudoDiff
  simp only
  split_ifs <;> rfl

/-- The press edges of slot 11. -/
theorem pressOp_tick_pressed :
    (pressOp (debounceOp (encoderStage (tickEntry (presentWord w s))))).sig.pressed =
      pseudoTs w s &&& pseudoAccepted w s := by
  simp [encoderStage, encoderChannel, pressOp_sig, debounceOp_ts, debounceOp_ct0,
    debounceOp_ct1, debounceOp_sig, qdecOp_sig, phaseOp_sig, pressedLanes, pseudoTs, pseudoAccepted, pseudoRawChange, pseudoCt0, pseudoCt1,
    rawChange, newCt0, newCt1, newTs, acceptedLanes, pressedLevels, rawLanes]

/-- The signal `fire` of slot 15. -/
theorem longpressOp_tick_fire :
    (longpressOp (ttoggleOp .blue (ttoggleOp .green (ttoggleOp .red
      (pressOp (debounceOp (encoderStage (tickEntry (presentWord w s))))))))).sig.fire =
      decide (pseudoTs w s ≠ 0#3 ∧ pseudoRpt w s = 0) := by
  have h1 := levelStages_ts w s
  have h2 := levelStages_rpt w s
  simp only [levelStages, buttonStage, faderStage, decompOp_rpt, fadeOp_rpt, tclearOp_rpt,
    longpressOp_rpt, decompOp_ts, fadeOp_ts, tclearOp_ts, longpressOp_ts] at h1 h2
  simp only [longpressOp_sig, longPressFires]
  rw [h1, anyHeld_eq] at *
  rw [← h2, Bool.eq_iff_iff]
  simp only [Bool.and_eq_true, decide_eq_true_eq, beq_iff_eq, BitVec.toNat_eq, BitVec.toNat_ofNat,
    Nat.zero_mod]

/-- The targets after the press edges, slots 11 to 14. -/
theorem ttoggleOp_tick_target (c : Colour) :
    ((ttoggleOp .blue (ttoggleOp .green (ttoggleOp .red
      (pressOp (debounceOp (encoderStage (tickEntry (presentWord w s)))))))).target.get c).toNat =
      pseudoToggled w s c := by
  have hp := pressOp_tick_pressed w s
  have he := encoderStage_target w s c
  unfold pseudoToggled
  rw [← he, ← hp]
  generalize encoderStage (tickEntry (presentWord w s)) = u
  have h0 : (ttoggleOp .blue (ttoggleOp .green (ttoggleOp .red
        (pressOp (debounceOp u))))).target.get c =
      if lane (pressOp (debounceOp u)).sig.pressed c then toggledTarget (u.target.get c)
      else u.target.get c := by
    cases c <;> simp only [ttoggleOp_target, ttoggleOp_sig, pressOp_target, debounceOp_target] <;>
      split_ifs <;> simp_all
  rw [h0]
  unfold lane
  split <;> simp [toggledTarget_toNat]

theorem levelStages_target (c : Colour) :
    ((levelStages (presentWord w s)).target.get c).toNat = pseudoTarget w s c := by
  have hf := longpressOp_tick_fire w s
  have ht := ttoggleOp_tick_target w s c
  unfold pseudoTarget
  simp only [levelStages, buttonStage, faderStage, decompOp_target, fadeOp_target, tclearOp_target,
    longpressOp_target]
  rw [hf]
  simp only [decide_eq_true_eq]
  split
  · simp
  · exact ht

theorem levelStages_current (c : Colour) :
    ((levelStages (presentWord w s)).current.get c).toNat = pseudoCurrent w s c := by
  have ht := levelStages_target w s c
  have h : (levelStages (presentWord w s)).current.get c =
      if fadeCondition s.tick then
        fadedLevel ((levelStages (presentWord w s)).target.get c) (s.current.get c)
      else s.current.get c := by
    cases c <;>
      simp [levelStages, faderStage, fadeOp_current, buttonStage, encoderStage, encoderChannel,
        longpressOp_sig, pressOp_sig, debounceOp_sig, qdecOp_sig, phaseOp_sig] <;>
      split_ifs <;> simp
  rw [h]
  unfold pseudoCurrent
  rw [fadeCondition_eq]
  simp only [decide_eq_true_eq]
  split
  · rw [← ht]
    have := fadedLevel_toNat ((levelStages (presentWord w s)).target.get c) (s.current.get c)
    omega
  · rfl

theorem levelStages_level (k : OutChannel) :
    ((levelStages (presentWord w s)).sig.level.get k).toNat = pseudoLevel w s k := by
  have h : (levelStages (presentWord w s)).sig.level =
      decomposed (levelStages (presentWord w s)).current := by
    simp [levelStages, decompOp_sig]
  rw [h]
  have hr := levelStages_current w s .red
  have hg := levelStages_current w s .green
  have hb := levelStages_current w s .blue
  simp only [PerColour.get] at hr hg hb
  cases k
  · exact (decomposed_colour_toNat _ .red).trans (by simp only [pseudoLevel, PerColour.get, hr, hg, hb])
  · exact (decomposed_colour_toNat _ .green).trans (by simp only [pseudoLevel, PerColour.get, hr, hg, hb])
  · exact (decomposed_colour_toNat _ .blue).trans (by simp only [pseudoLevel, PerColour.get, hr, hg, hb])
  · exact (decomposed_white_toNat _).trans (by simp only [pseudoLevel, hr, hg, hb])

theorem levelStages_t : (levelStages (presentWord w s)).sig.t = s.tick := by
  simp [levelStages, faderStage, buttonStage, encoderStage, encoderChannel, decompOp_sig,
    longpressOp_sig, pressOp_sig, debounceOp_sig, qdecOp_sig, phaseOp_sig]

@[simp] theorem levelStages_duty : (levelStages (presentWord w s)).duty = s.duty := by
  simp [levelStages, faderStage, buttonStage, encoderStage, encoderChannel]

@[simp] theorem levelStages_ports : (levelStages (presentWord w s)).ports = portsOfWord w := by
  simp [levelStages, faderStage, buttonStage, encoderStage, encoderChannel]

@[simp] theorem levelStages_stimulus : (levelStages (presentWord w s)).stimulus = s.stimulus := by
  simp [levelStages, faderStage, buttonStage, encoderStage, encoderChannel]

end levelStages

/-- Where every pin agrees with the debounced state, that state stays (42_button_debounce.md R128). -/
theorem pseudoTs_of_agree (w : InWord) (s : State) (h : pseudoRawChange w s = 0#3) :
    pseudoTs w s = s.ts := by
  simp [pseudoTs, pseudoAccepted, h]

/-- Between fade ticks no current level moves (43_color_fader.md R151). -/
theorem pseudoNext_current_of_no_fade (T : Config.Tables) (w : InWord) (s : State)
    (h : s.tick.toNat % 32 ≠ 0) : (pseudoNext T w s).current = s.current := by
  simp [pseudoNext, pseudoCurrent, h, PerColour.get]

/-- The duty value of the pseudocode is `PWMENC` (45_gamma_dither_pwm.md R171). -/
theorem pwmEncoded_toNat (T : Config.Tables) (level t : Byte) :
    (pwmEncoded T level t).toNat = pseudoDuty T level.toNat t.toNat := by
  unfold pwmEncoded pseudoDuty
  simp only [dutyValue_toNat, patternBit_toNat, ditherBitNumber_eq, readDither]
  have h : ditherIndex (T.gamma (Fin.ofNat 41 level.toNat)) =
      Fin.ofNat 4 (T.gamma (Fin.ofNat 41 level.toNat)).toNat := Fin.ext (ditherIndex_val _)
  rw [h]

end Sys2Proof.Machine
end

