-- ==== Sys2Proof/Tests/Slice0.lean ====
section
/-! SUPPORT. Small tests, each one step, their expected results taken from the spec (the vector or rule
is named), and for every statement with hypotheses a state and operands that meet them. -/

namespace Sys2Proof.Tests

open Sys2Proof Sys2Proof.Machine

/-- Does an outcome go on, to a state with this property? -/
def goesTo (r : Result) (p : State → Bool) : Bool :=
  match r with
  | .next t => p t
  | _ => false

/-- "Rest state A" of 95_test_vectors.md: the reset state after two idle ticks. -/
def stateA : State := { State.reset with lastPhase := .all 2#2, ct0 := 7#3, tick := 2#8 }

/-- The reset state with other signals. -/
def withSig (g : Signals) : State := { State.reset with sig := g }

/-! Well-formedness: one ill-formed term for each check. -/

theorem test_wf_refuses_reserved_operation : OpWord.wellFormed 0b111101#6 = false := by decide
theorem test_wf_refuses_reserved_colour : OpWord.wellFormed 0b000111#6 = false := by decide
theorem test_wf_refuses_reserved_channel_field : OpWord.wellFormed 0b010010#6 = false := by decide
theorem test_wf_refuses_bits_above_op : Request.wellFormed ⟨false, [0x40#8]⟩ = false := by decide
theorem test_wf_refuses_bits_above_in : Request.wellFormed ⟨false, [0#8, 2#8]⟩ = false := by decide
theorem test_wf_refuses_bad_length : Request.wellFormed ⟨false, [0#8, 0#8, 0#8]⟩ = false := by decide
theorem test_wf_accepts_white_on_gamma : OpWord.wellFormed 0b101111#6 = true := by decide

/-! Decoding: a word written out from 30_encoding.md R85, R70 or R83 for every constructor. -/

theorem test_decode_sample : decodeTableWord 8 0b000000 = some .sample := by decide
theorem test_decode_phase : decodeTableWord 8 0b000100 = some (.phase .red) := by decide
theorem test_decode_qdec : decodeTableWord 8 0b001010 = some (.qdec .blue) := by decide
theorem test_decode_tstep : decodeTableWord 8 0b001101 = some (.tstep .green) := by decide
theorem test_decode_debounce : decodeTableWord 8 0b010000 = some .debounce := by decide
theorem test_decode_press : decodeTableWord 8 0b010100 = some .press := by decide
theorem test_decode_ttoggle : decodeTableWord 8 0b011010 = some (.ttoggle .blue) := by decide
theorem test_decode_longpress : decodeTableWord 8 0b011100 = some .longpress := by decide
theorem test_decode_tclear : decodeTableWord 8 0b100000 = some .tclear := by decide
theorem test_decode_fade : decodeTableWord 8 0b100101 = some (.fade .green) := by decide
theorem test_decode_decomp : decodeTableWord 8 0b101000 = some .decomp := by decide
theorem test_decode_gamma : decodeTableWord 8 0b101111 = some (.gamma .white) := by decide
theorem test_decode_dither : decodeTableWord 8 0b110001 = some (.dither .green) := by decide
theorem test_decode_duty : decodeTableWord 8 0b110110 = some (.duty .blue) := by decide
theorem test_decode_tickinc : decodeTableWord 8 0b111000 = some .tickinc := by decide
theorem test_decode_tick : decodeTableWord 16 0b110111110 = some (.tick 0x1BE#9) := by decide
theorem test_decode_reset : decodeTableWord 8 0b1 = some .reset := by decide
theorem test_decode_reserved : decodeTableWord 8 0b111100 = none := by decide

/-! One step of each instruction. -/

/-- V8.1, row 2: only enc_a[0] low gives 0x1FE; t is a copy of tick. -/
theorem test_sample : goesTo
    (exec .sample { stateA with ports := { Ports.idle with encA := ⟨false, true, true⟩ } })
    (fun t => t.sig.inWord == 0x1FE#9 && t.sig.t == 2#8) = true := by decide

/-- V8.1, row 8: only btn[2] low gives 0x0FF. -/
theorem test_sample_blue_button : goesTo
    (exec .sample { stateA with ports := { Ports.idle with btn := ⟨true, true, false⟩ } })
    (fun t => t.sig.inWord == 0x0FF#9) = true := by decide

/-- 40_quadrature_decoder.md R101, example: A = 1, B = 0 gives 3; here for green, word 0x1F7. -/
theorem test_phase : goesTo
    (exec (.phase .green) (withSig { Signals.dead with inWord := 0x1F7#9 }))
    (fun t => t.sig.curPhase == ⟨0#2, 3#2, 0#2⟩) = true := by decide

/-- V2.1: stored 2, sampled 1, gives 1, INC; the code is stored. -/
theorem test_qdec_inc : goesTo
    (exec (.qdec .blue) { stateA with sig := { Signals.dead with curPhase := .all 1#2 } })
    (fun t => t.lastPhase == ⟨2#2, 2#2, 1#2⟩ && t.sig.move == ⟨.none, .none, .inc⟩) = true := by decide

/-- V2.1: stored 2, sampled 0, gives 2, NONE; the code is stored all the same. -/
theorem test_qdec_jump : goesTo
    (exec (.qdec .red) { stateA with sig := { Signals.dead with curPhase := .all 0#2 } })
    (fun t => t.lastPhase == ⟨0#2, 2#2, 2#2⟩ && t.sig.move.red == .none &&
      t.sig.diff.red == 2#2) = true := by decide

/-- V2.3: 40 and INC stay 40. -/
theorem test_tstep_inc_clamps : goesTo
    (exec (.tstep .red) { stateA with
      target := ⟨40#8, 7#8, 0#8⟩, sig := { Signals.dead with move := .all .inc } })
    (fun t => t.target == ⟨40#8, 7#8, 0#8⟩) = true := by decide

/-- V2.3: 0 and DEC stay 0, 17 and DEC give 16. -/
theorem test_tstep_dec : goesTo
    (exec (.tstep .green) { stateA with
      target := ⟨0#8, 17#8, 0#8⟩, sig := { Signals.dead with move := .all .dec } })
    (fun t => t.target == ⟨0#8, 16#8, 0#8⟩) = true := by decide

/-- V3.1, n = 1: the second pressed tick accepts the press. -/
theorem test_debounce_accepts : goesTo
    (exec .debounce { stateA with
      ct0 := 0b110#3, ct1 := 0b110#3, sig := { Signals.dead with inWord := 0x1BF#9 } })
    (fun t => t.ct0 == 0b111#3 && t.ct1 == 0b001#3 && t.sig.accepted == 0b001#3 &&
      t.ts == 0b001#3) = true := by decide

/-- V3.10, n = 7: the blue lane counts while the others rest. -/
theorem test_debounce_lanes : goesTo
    (exec .debounce { stateA with
      ts := 0b100#3, ct0 := 0b111#3, ct1 := 0b011#3, sig := { Signals.dead with inWord := 0x1FF#9 } })
    (fun t => t.ct0 == 0b011#3 && t.ct1 == 0b000#3 && t.sig.rawChange == 0b100#3 &&
      t.ts == 0b100#3) = true := by decide

/-- 42_button_debounce.md R132, R134: the press edge counts, the release edge does not. -/
theorem test_press : goesTo
    (exec .press { stateA with ts := 0b001#3, sig := { Signals.dead with accepted := 0b101#3 } })
    (fun t => t.sig.pressed == 0b001#3) = true := by decide

/-- V4.3: 0 becomes 40, and only in the pressed channel. -/
theorem test_ttoggle : goesTo
    (exec (.ttoggle .blue) { stateA with sig := { Signals.dead with pressed := 0b110#3 } })
    (fun t => t.target == ⟨0#8, 0#8, 40#8⟩) = true := by decide

/-- 41_bounded_counter.md R112, example: 17 becomes 0. -/
theorem test_ttoggle_snaps : goesTo
    (exec (.ttoggle .blue) { stateA with
      target := ⟨1#8, 2#8, 17#8⟩, sig := { Signals.dead with pressed := 0b100#3 } })
    (fun t => t.target == ⟨1#8, 2#8, 0#8⟩) = true := by decide

/-- V4.1: held with 1 gives 0 and fires. -/
theorem test_longpress_fires : goesTo (exec .longpress { stateA with ts := 0b010#3, rpt := 1#16 })
    (fun t => t.rpt == 0#16 && t.sig.fire && t.sig.held) = true := by decide

/-- V4.1: held with 0 gives 65535 and does not fire. -/
theorem test_longpress_wraps : goesTo (exec .longpress { stateA with ts := 0b010#3, rpt := 0#16 })
    (fun t => t.rpt == 65535#16 && !t.sig.fire) = true := by decide

/-- 41_bounded_counter.md R113, example. -/
theorem test_tclear : goesTo
    (exec .tclear { stateA with
      target := ⟨40#8, 3#8, 0#8⟩, sig := { Signals.dead with fire := true } })
    (fun t => t.target == ⟨0#8, 0#8, 0#8⟩) = true := by decide

/-- V5.1: 0 against 255 gives 254, where an 8-bit difference would have the wrong sign. -/
theorem test_fade_wide : goesTo
    (exec (.fade .green) { stateA with current := ⟨9#8, 255#8, 9#8⟩, sig := { Signals.dead with t := 224#8 } })
    (fun t => t.current == ⟨9#8, 254#8, 9#8⟩) = true := by decide

/-- V5.2: no fade with tick 31. -/
theorem test_fade_skipped : goesTo
    (exec (.fade .red) { stateA with target := .all 40#8, sig := { Signals.dead with t := 31#8 } })
    (fun t => t.current == ⟨0#8, 0#8, 0#8⟩) = true := by decide

/-- V6.1, the source's example S6. -/
theorem test_decomp : goesTo (exec .decomp { stateA with current := ⟨200#8, 50#8, 120#8⟩ })
    (fun t => t.sig.level == ⟨150#8, 0#8, 70#8, 50#8⟩) = true := by decide

/-- V7.1: 41 faults, with the channel and the level. -/
theorem test_gamma_faults :
    exec (.gamma .white) (withSig { Signals.dead with level := .all 41#8 }) =
      .fault (.gammaIndexOutOfRange .white 41#8) := rfl

/-- V7.2 (REF): level 23 gives 94. -/
theorem test_gamma_ref : goesTo
    (gammaOp Config.refTables .green (withSig { Signals.dead with level := ⟨0#8, 23#8, 0#8, 0#8⟩ }))
    (fun t => t.sig.pwm == ⟨0#8, 94#8, 0#8, 0#8⟩) = true := by decide

/-- V7.4 (REF): 94 at t = 246 gives 1. -/
theorem test_dither_ref :
    (ditherOp Config.refTables .blue
      (withSig { Signals.dead with pwm := .all 94#8, t := 246#8 })).sig.x = ⟨0#1, 0#1, 1#1, 0#1⟩ := by
  decide

/-- V7.4 (REF): 255 at t = 7 gives 0. -/
theorem test_dither_ref_off :
    (ditherOp Config.refTables .red
      (withSig { Signals.dead with pwm := .all 255#8, x := .all 1#1, t := 7#8 })).sig.x =
      ⟨0#1, 1#1, 1#1, 1#1⟩ := by
  decide

/-- 45_gamma_dither_pwm.md R170, corner case: 255 with 1 gives 64. -/
theorem test_duty : goesTo
    (exec (.duty .white) (withSig { Signals.dead with pwm := .all 255#8, x := .all 1#1 }))
    (fun t => t.duty == ⟨0#8, 0#8, 0#8, 64#8⟩) = true := by decide

/-- V8.2: 255 goes to 0; the value used is t, not tick. -/
theorem test_tickinc : goesTo (exec .tickinc { stateA with sig := { Signals.dead with t := 255#8 } })
    (fun t => t.tick == 0#8) = true := by decide

/-- V8.4, n = 0: the first idle tick from reset, all but the outputs. -/
theorem test_tick_idle : goesTo (exec (.tick 0x1FF#9) State.reset)
    (fun t => t.lastPhase == ⟨2#2, 2#2, 2#2⟩ && t.target == ⟨0#8, 0#8, 0#8⟩ && t.ts == 0#3 &&
      t.ct0 == 7#3 && t.ct1 == 7#3 && t.rpt == 750#16 && t.tick == 1#8) = true := by decide

/-- V4.4, case e, with the outputs (REF): an encoder move in a fade tick. -/
theorem test_tick_ref : goesTo (tickOp Config.refTables 0x1FB#9 { stateA with tick := 32#8 })
    (fun t => t.lastPhase == ⟨2#2, 1#2, 2#2⟩ && t.target == ⟨0#8, 1#8, 0#8⟩ &&
      t.current == ⟨0#8, 1#8, 0#8⟩ && t.ct1 == 7#3 && t.tick == 33#8 &&
      t.duty == ⟨0#8, 1#8, 0#8, 0#8⟩) = true := by decide

/-- V8.3: RESET from any state. -/
theorem test_reset : goesTo
    (exec .reset { stateA with target := ⟨40#8, 7#8, 0#8⟩, rpt := 65000#16, tick := 199#8 })
    (fun t => t == State.reset) = true := by decide

/-- A table word placed for the fetch is what the next step runs: V4.4, case a, TSTEP then TTOGGLE. -/
theorem test_step_runs_the_word : goesTo
    (step (State.withFetchWord { stateA with ct0 := 0b110#3, ct1 := 0b110#3, tick := 3#8 } 16 0x1BE))
    (fun t => t.lastPhase == ⟨1#2, 2#2, 2#2⟩ && t.target == ⟨0#8, 0#8, 0#8⟩ && t.ts == 0b001#3 &&
      t.rpt == 749#16 && t.tick == 4#8 && t.stimulus == []) = true := by decide

/-- V4.4, case c: a press edge on green and the long press firing in one tick leave all targets 0. -/
theorem test_step_long_press_wins : goesTo
    (step (State.withFetchWord { stateA with
      target := ⟨7#8, 0#8, 9#8⟩, ts := 0b001#3, ct0 := 0b101#3, ct1 := 0b101#3, rpt := 1#16,
      tick := 5#8 } 16 0x13F))
    (fun t => t.target == ⟨0#8, 0#8, 0#8⟩ && t.ts == 0b011#3 && t.ct0 == 0b111#3 &&
      t.ct1 == 0b010#3 && t.rpt == 0#16) = true := by decide

/-! For every statement with hypotheses, a state and operands that meet all of them together; one for
each clause, at a boundary of its range, where a statement has several. -/

/-- Targets 0, 37 and 40, current levels 40, 0 and 1: the ends of the ranges. -/
def stateB : State := { stateA with target := ⟨0#8, 37#8, 40#8⟩, current := ⟨40#8, 0#8, 1#8⟩ }

/-- The ticks of the one-piece pseudocode on the words `word 0`, `word 1`, … . -/
def pseudoRun (word : Nat → InWord) (s : State) : Nat → State
  | 0 => s
  | n + 1 => pseudoNext Config.tables (word n) (pseudoRun word s n)

/-- The green level at 23, one tick after a fade tick. -/
def stateD : State :=
  { stateA with target := ⟨17#8, 40#8, 20#8⟩, current := ⟨17#8, 40#8, 40#8⟩, tick := 1#8 }

/-- A press of red and a step of green, by turns. -/
def stateDWords (n : Nat) : InWord := if n % 2 = 0 then 0x1BB#9 else 0x1FF#9

/-- A press of red that the next tick accepts: V4.4, case a. -/
def stateC : State := { stateA with ct0 := 0b110#3, ct1 := 0b110#3, tick := 3#8 }

theorem stateA_levels : stateA.LevelsInRange := fun c => by cases c <;> decide
theorem stateB_levels : stateB.LevelsInRange := fun c => by cases c <;> decide
theorem stateC_levels : stateC.LevelsInRange := fun c => by cases c <;> decide
theorem stateB_rest : stateB.AtRest := ⟨rfl, rfl, rfl⟩

theorem stateB_inRange : stateB.InRange :=
  ⟨stateB_levels, fun k => by cases k <;> decide, fun k => by cases k <;> decide⟩

theorem witness_EncodeInvertsDecode :
    decodeWord [0x2F#8] = .ok (.gamma .white) ∧ decodeWord [0xFF#8, 1#8] = .ok (.tick 0x1FF#9) ∧
    decodeWord [0#8, 0#8] = .ok (.tick 0#9) := by decide

/-- One reserved pattern of each of the three kinds, each at the lowest and the highest value. -/
theorem witness_ReservedOpWordsStopTheStep :
    (∀ w ∈ [0b111100#6, 0b111111#6], OpWord.wellFormed w = false ∧
      OpWord.reservedOperation w = true) ∧
    (∀ w ∈ [0b000111#6, 0b100111#6], OpWord.wellFormed w = false ∧
      OpWord.reservedColour w = true) ∧
    (∀ w ∈ [0b000001#6, 0b111011#6],
      OpWord.wellFormed w = false ∧ OpWord.reservedChannelField w = true) ∧
    ({ stateA with stimulus := [⟨false, [0x3C#8]⟩] } : State).stimulus =
      { rst := false, word := [(0b111100#6).setWidth 8] } :: [] := by decide

theorem witness_StepRunsTheDecodedInstruction :
    ({ stateA with stimulus := [tickRequest 0x1BE#9] } : State).stimulus = tickRequest 0x1BE#9 :: [] ∧
    decodeRequest (tickRequest 0x1BE#9) = .ok (.tick 0x1BE#9) := by decide

theorem witness_StepWithoutRequestChangesNothing :
    stateA.stimulus = [] ∧
    ({ stateA with stimulus := [⟨false, []⟩, resetRequest] } : State).stimulus =
      { rst := false, word := [] } :: [resetRequest] := by decide

theorem witness_RstOverridesATickRequest :
    ({ stateB with stimulus := [⟨true, [0xBE#8, 1#8]⟩] } : State).stimulus =
      { rst := true, word := (tickRequest 0x1BE#9).word } :: [] := by decide

/-- The pairs 2 to 0, 3 to 0 and 0 to 3: the two-position jump and both skips of three. -/
theorem witness_SkippedTransitionsAreMiscounted :
    (∃ s : State, s.sig.curPhase.get .red = s.lastPhase.get .red - 2#2) ∧
    (∃ s : State, s.sig.curPhase.get .red = s.lastPhase.get .red - 3#2) ∧
    (∃ s : State, s.sig.curPhase.get .red = s.lastPhase.get .red + 3#2) :=
  ⟨⟨{ stateA with sig := { Signals.dead with curPhase := .all 0#2 } }, by decide⟩,
   ⟨{ stateA with lastPhase := .all 3#2 }, by decide⟩,
   ⟨{ stateA with lastPhase := .all 0#2, sig := { Signals.dead with curPhase := .all 3#2 } },
     by decide⟩⟩

/-- A target of 0, one of 37, from which four more is clamped, and one of 40. -/
theorem witness_OneDetentMovesTheTargetByFour : stateB.AtRest ∧ stateB.LevelsInRange :=
  ⟨stateB_rest, stateB_levels⟩

theorem witness_DebounceLanesAreIndependent : stateC.LevelsInRange := stateC_levels

theorem witness_LongpressReloadsOrCountsDown :
    stateA.ts = 0#3 ∧ ({ stateA with ts := 0b100#3, rpt := 0#16 } : State).ts ≠ 0#3 := by decide

theorem witness_OneTickGlitchIsRejected :
    stateA.LevelsInRange ∧ lane stateA.ct0 .blue = true ∧
    (!inP 0x0FF#9 .blue) ≠ lane stateA.ts .blue ∧ (!inP 0x1FF#9 .blue) = lane stateA.ts .blue :=
  ⟨stateA_levels, by decide⟩

/-- A press confirmed in two ticks (`ct1` bit 0) and a release confirmed in four (`ct1` bit 1). -/
theorem witness_ConfirmationTakesTwoOrFourTicks :
    (stateA.LevelsInRange ∧ lane stateA.ct0 .red = true ∧ lane stateA.ct1 .red = false ∧
      ∀ w ∈ [0x1BF#9, 0x1BF#9, 0x1BF#9, 0x1BF#9], (!inP w .red) ≠ lane stateA.ts .red) ∧
    ∃ s : State, s.LevelsInRange ∧ lane s.ct0 .red = true ∧ lane s.ct1 .red = true ∧
      ∀ w ∈ [0x1FF#9, 0x1FF#9, 0x1FF#9, 0x1FF#9], (!inP w .red) ≠ lane s.ts .red :=
  ⟨⟨stateA_levels, by decide⟩,
   { stateA with ts := 1#3, ct1 := 1#3 }, fun c => by cases c <;> decide, by decide⟩

theorem witness_AgreeingPinIsNeverAccepted :
    stateA.LevelsInRange ∧
    ∀ w ∈ [0x1FF#9, 0x1FE#9, 0x13F#9], (!inP w .blue) = lane stateA.ts .blue :=
  ⟨stateA_levels, by decide⟩

/-- The red button is accepted in the first tick, and after that every tick ends held, for as long as
its pin stays low: the premise on the ticks holds for every `n`, 0 and 749 among them. The run is the
pseudocode's, which TickCompletesInRange says is the machine's. -/
theorem witness_LongPressFiresInThe750thHeldTick :
    stateC.LevelsInRange ∧ stateC.ts = 0#3 ∧ stateC.rpt = 750#16 ∧
    (∃ t, exec (.tick 0x1BF#9) stateC = .next t ∧ t.ts ≠ 0#3) ∧
    ∀ n, (pseudoRun (fun _ => 0x1BF#9) stateC (n + 1)).ts ≠ 0#3 := by
  refine ⟨stateC_levels, rfl, rfl, ⟨_, rfl, by decide⟩, fun n => ?_⟩
  have h : (pseudoRun (fun _ => 0x1BF#9) stateC (n + 1)).ts = 1#3 := by
    induction n with
    | zero => decide
    | succ n ih => exact (pseudoTs_of_agree _ _ (by simp [pseudoRawChange, ih])).trans ih
  rw [h]; decide

/-- Green held from a countdown of 749: no tick, and the 749 ticks after which it fires. -/
theorem witness_AButtonHeldLowFiresTheLongPress :
    ∃ s : State, s.LevelsInRange ∧ lane s.ts .green = true ∧ s.rpt = 749#16 ∧
      ∀ n ∈ [0, 749], (∀ w ∈ List.replicate n 0x17F#9, inP w .green = false) ∧
        (List.replicate n 0x17F#9).length ≤ 749 ∧ (List.replicate n 0x17F#9).length = n := by
  refine ⟨{ stateB with ts := 0b010#3, rpt := 749#16 }, fun c => by cases c <;> decide, by decide,
    rfl, fun n hn => ⟨fun w hw => ?_, ?_, List.length_replicate⟩⟩
  · rw [List.eq_of_mem_replicate hw]; decide
  · rw [List.length_replicate]
    rcases List.mem_pair.mp hn with rfl | rfl <;> decide

theorem witness_LongPressClearsOnlyWhenItFires : stateC.LevelsInRange := stateC_levels

theorem witness_FadeMovesOneUnitTowardTheTarget :
    ({ stateB with sig := { Signals.dead with t := 31#8 } } : State).sig.t.toNat % 32 ≠ 0 ∧
    ({ stateB with sig := { Signals.dead with t := 224#8 } } : State).sig.t.toNat % 32 = 0 := by
  decide

theorem witness_FaderConvergesWithoutOvershoot : stateB.AtRest ∧ stateB.LevelsInRange :=
  ⟨stateB_rest, stateB_levels⟩

theorem witness_GammaReadsTheTable :
    (0 : Fin 41).val = ((withSig { Signals.dead with level := .all 0#8 }).sig.level.get .red).toNat ∧
    (40 : Fin 41).val =
      ((withSig { Signals.dead with level := .all 40#8 }).sig.level.get .white).toNat := by decide

theorem witness_GammaFaultsAboveTheTable :
    40 < ((withSig { Signals.dead with level := .all 41#8 }).sig.level.get .white).toNat := by decide

theorem witness_DitherSelectsThePatternBit :
    (3 : Fin 4).val =
      ((withSig { Signals.dead with pwm := .all 255#8, t := 7#8 }).sig.pwm.get .green).toNat % 4 := by
  decide

theorem witness_FullLevelShowsTheLastPattern :
    (withSig { Signals.dead with level := .all 40#8, t := 9#8 }).sig.level.get .white = 40#8 := by
  decide

/-- Eight ticks without a fade tick among them, on words with a press and encoder moves: the targets
move and the levels do not. The run is the pseudocode's, which TickCompletesInRange says is the
machine's. -/
theorem witness_DitherMeanIsAQuarterOfTheGammaResult :
    stateD.LevelsInRange ∧
    ∀ n, n < 8 →
      ((decomposed (pseudoRun stateDWords stateD (n + 1)).current).get .green).toNat = (23 : Fin 41).val := by
  refine ⟨fun c => by cases c <;> decide, fun n hn => ?_⟩
  have h : ∀ m, m ≤ 8 → (pseudoRun stateDWords stateD m).tick.toNat = 1 + m ∧
      (pseudoRun stateDWords stateD m).current = stateD.current := by
    intro m
    induction m with
    | zero => exact fun _ => ⟨rfl, rfl⟩
    | succ m ih =>
      intro hm
      obtain ⟨h1, h2⟩ := ih (by omega)
      refine ⟨?_, (pseudoNext_current_of_no_fade _ _ _ (by omega)).trans h2⟩
      show (BitVec.ofNat 8 (((pseudoRun stateDWords stateD m).tick.toNat + 1) % 256)).toNat = _
      rw [h1, BitVec.toNat_ofNat]
      omega
  rw [(h (n + 1) (by omega)).2]
  decide

/-- S8: green, blue and white are dark while red rises. -/
theorem witness_DarkMeansDark :
    ∃ t, exec (.tick idleWord) { stateA with target := ⟨40#8, 0#8, 0#8⟩, tick := 32#8 } = .next t ∧
      (∀ k ∈ [OutChannel.green, .blue, .white], (decomposed t.current).get k = 0#8) ∧
      (decomposed t.current).get .red = 1#8 := ⟨_, rfl, by decide⟩

/-- Both clauses: levels at 40 after DECOMP, and the ranges. -/
theorem witness_TickCompletesInRange :
    (∀ k, pseudoLevel idleWord { stateB with current := ⟨40#8, 40#8, 80#8⟩ } k ≤ 40) ∧
    stateB.LevelsInRange :=
  ⟨fun k => by cases k <;> decide, stateB_levels⟩

theorem witness_NothingElseSurvivesATick :
    ∃ u : State, stateB.SameRegisters u ∧ stateB.stimulus = u.stimulus ∧ stateB.sig ≠ u.sig ∧
      stateB.ports ≠ u.ports :=
  ⟨{ stateB with sig := { Signals.dead with fire := true }, ports := portsOfWord 0#9 },
   ⟨rfl, rfl, rfl, rfl, rfl, rfl, rfl, rfl, rfl⟩, rfl, by decide, by decide⟩

theorem witness_EncodersShareNothing :
    stateB.LevelsInRange ∧ inA 0x1FE#9 .red = inA 0x1F2#9 .red ∧ inB 0x1FE#9 .red = inB 0x1F2#9 .red ∧
    (∀ d, inP 0x1FE#9 d = inP 0x1F2#9 d) ∧ (0x1FE#9 ≠ 0x1F2#9) :=
  ⟨stateB_levels, by decide, by decide, fun d => by cases d <;> decide, by decide⟩

/-- A press on a stepped target of 0, and on one of 40. -/
theorem witness_PressActsOnTheSteppedTarget :
    (∃ t, exec (.tick 0x1BF#9) stateC = .next t ∧ lane stateC.ts .red = false ∧
      lane t.ts .red = true ∧ t.rpt ≠ 0#16 ∧ pseudoStepped 0x1BF#9 stateC .red = 0) ∧
    ∃ s t : State, exec (.tick 0x1BE#9) s = .next t ∧ lane s.ts .red = false ∧
      lane t.ts .red = true ∧ t.rpt ≠ 0#16 ∧ pseudoStepped 0x1BE#9 s .red = 40 :=
  ⟨⟨_, rfl, by decide⟩, { stateC with target := ⟨39#8, 0#8, 0#8⟩ }, _, rfl, by decide⟩

/-- A fade tick at a counter of 224, and the tick before it. -/
theorem witness_TickFadesAtMostOneUnit :
    (∃ t, exec (.tick idleWord) { stateB with tick := 223#8 } = .next t ∧
      (223#8).toNat % 32 ≠ 0) ∧
    ∃ t, exec (.tick idleWord) { stateB with tick := 224#8 } = .next t ∧ (224#8).toNat % 32 = 0 :=
  ⟨⟨_, rfl, by decide⟩, _, rfl, by decide⟩

/-- The button alone, and the button with the encoder pair (1, 0), the increment from reset. -/
theorem witness_FirstTickAcceptsAPressAtOnce :
    inP 0x1BF#9 .red = false ∧ inP 0x1BD#9 .red = false ∧ inA 0x1BD#9 .red = true ∧
    inB 0x1BD#9 .red = false := by decide

theorem witness_IdleTicksFromReset : 0 < 1 ∧ 0 < 256 := by decide

set_option maxRecDepth 8192 in
theorem witness_StepKeepsTheRanges :
    ∃ s t : State, s.InRange ∧ step s = .next t ∧ s.stimulus ≠ [] :=
  ⟨{ stateB with stimulus := [tickRequest 0x1BE#9] }, _, stateB_inRange, rfl, by decide⟩

theorem witness_NoStepFaultsInRange : stateB.InRange := stateB_inRange

/-- After one completed step a tick on white at 41, the last channel and the lowest level that faults,
with a RESET waiting behind it. -/
theorem witness_FaultIsKept : ∃ s u : State,
    Host.Core.run Sys2Proof.core 1 s = .next u ∧
    u.stimulus = tickRequest idleWord :: [resetRequest] ∧ 40 < pseudoLevel idleWord u .white ∧
    ∀ j : OutChannel, j.index < OutChannel.white.index → pseudoLevel idleWord u j ≤ 40 :=
  ⟨{ stateA with
      current := .all 41#8
      stimulus := [⟨false, []⟩, tickRequest idleWord, resetRequest] }, _, rfl, by decide, by decide,
    fun j => by cases j <;> decide⟩

theorem witness_TickEndsWithDutyAtMost64 : ∃ t, exec (.tick 0#9) stateB = .next t := ⟨_, rfl⟩

/-- For each register a listed operation that writes it. -/
theorem witness_OnlyTheListedOperationsWrite :
    (∃ s t : State, exec (.qdec .red) s = .next t ∧ t.lastPhase ≠ s.lastPhase) ∧
    (∃ s t : State, exec (.tstep .red) s = .next t ∧ t.target ≠ s.target) ∧
    (∃ s t : State, exec (.fade .red) s = .next t ∧ t.current ≠ s.current) ∧
    (∃ s t : State, exec .debounce s = .next t ∧ t.ts ≠ s.ts ∧ t.ct1 ≠ s.ct1) ∧
    (∃ s t : State, exec .longpress s = .next t ∧ t.rpt ≠ s.rpt) ∧
    (∃ s t : State, exec .tickinc s = .next t ∧ t.tick ≠ s.tick) ∧
    (∃ s t : State, exec (.duty .white) s = .next t ∧ t.duty ≠ s.duty) :=
  ⟨⟨stateA, _, rfl, by decide⟩,
   ⟨withSig { Signals.dead with move := .all .inc }, _, rfl, by decide⟩,
   ⟨stateB, _, rfl, by decide⟩,
   ⟨{ stateC with sig := { Signals.dead with inWord := 0x1BF#9 } }, _, rfl, by decide⟩,
   ⟨{ stateA with ts := 1#3 }, _, rfl, by decide⟩,
   ⟨stateA, _, rfl, by decide⟩,
   ⟨withSig { Signals.dead with pwm := .all 255#8 }, _, rfl, by decide⟩⟩

end Sys2Proof.Tests
end

section
/-! PROOFS. The state (10_state.md): what a tick is made of, what it depends on, which operation writes
which register, and the ranges along every run. -/

namespace Sys2Proof.Machine

open Sys2Proof

/-! ## Sequencing -/

theorem andThen_assoc (r : Result) (f g : State → Result) :
    andThen (andThen r f) g = andThen r fun s => andThen (f s) g := by
  cases r <;> rfl

@[simp] theorem andThen_next_right (r : Result) : andThen r .next = r := by
  cases r <;> rfl

theorem runInstrs_append (is js : List Instr) :
    runInstrs (is ++ js) = fun s => andThen (runInstrs is s) (runInstrs js) := by
  induction is with
  | nil => rfl
  | cons i is ih =>
    funext s
    rw [List.cons_append, runInstrs_cons, runInstrs_cons, andThen_assoc, ih]

/-! ## A tick as its schedule (46_tick_dispatcher.md R182) -/

/-- Slots 0 to 20. -/
def levelSlots : List Instr := tickSchedule.take 21

/-- The three slots of one output channel (45_gamma_dither_pwm.md R165). -/
def pwmSlots (k : OutChannel) : List Instr := [.gamma k, .dither k, .duty k]

theorem tickSchedule_eq_stages :
    tickSchedule = levelSlots ++ (pwmSlots .red ++ (pwmSlots .green ++ (pwmSlots .blue ++
      (pwmSlots .white ++ [.tickinc])))) := rfl

theorem runInstrs_levelSlots : runInstrs levelSlots = fun s => .next (levelStages s) := rfl

theorem runInstrs_pwmSlots (k : OutChannel) :
    runInstrs (pwmSlots k) = pwmChannel Config.tables k := rfl

theorem runInstrs_tickinc : runInstrs [.tickinc] = fun s => .next (tickincOp s) := rfl

/-- The 34 slots one after another are the stages of TICK, without the return. -/
theorem runInstrs_tickSchedule (s : State) :
    runInstrs tickSchedule s =
      andThen (pwmStage Config.tables (levelStages s)) fun u => .next (tickincOp u) := by
  simp only [tickSchedule_eq_stages, runInstrs_append, runInstrs_levelSlots, runInstrs_pwmSlots,
    runInstrs_tickinc, andThen_next, pwmStage, andThen_assoc]

theorem exec_tick_eq_schedule (w : InWord) (s : State) :
    exec (.tick w) s =
      andThen (runInstrs tickSchedule (presentWord w s)) fun u => .next (tickReturn u) := by
  rw [runInstrs_tickSchedule, andThen_assoc]
  rfl

/-- Settles O40: each stage of TICK runs its slots of the schedule, and sequencing is associative. -/
theorem tickIsItsSchedule : Obligations.TickIsItsSchedule :=
  exec_tick_eq_schedule

/-! ## A tick as a function of the registers (46_tick_dispatcher.md R183) -/

theorem perColour_eq_ofNat {n : Nat} {v : PerColour (BitVec n)} {f : Colour → Nat}
    (h : ∀ c, (v.get c).toNat = f c) :
    v = ⟨BitVec.ofNat n (f .red), BitVec.ofNat n (f .green), BitVec.ofNat n (f .blue)⟩ := by
  apply PerColour.ext_get
  intro c
  cases c <;> simp [PerColour.get, ← h]

theorem perOut_eq_ofNat {n : Nat} {v : PerOut (BitVec n)} {f : OutChannel → Nat}
    (h : ∀ k, (v.get k).toNat = f k) :
    v = ⟨BitVec.ofNat n (f .red), BitVec.ofNat n (f .green), BitVec.ofNat n (f .blue),
      BitVec.ofNat n (f .white)⟩ := by
  apply PerOut.ext_get
  intro k
  cases k <;> simp [PerOut.get, ← h]

/-- The PWM slots of the output channels `ks`, in order. -/
def pwmChannels (T : Config.Tables) (ks : List OutChannel) (s : State) : Result :=
  match ks with
  | [] => .next s
  | k :: rest => andThen (pwmChannel T k s) (pwmChannels T rest)

theorem pwmStage_eq_pwmChannels (T : Config.Tables) (s : State) :
    pwmStage T s = pwmChannels T [.red, .green, .blue, .white] s := by
  simp [pwmStage, pwmChannels]

theorem pwmChannel_fault (T : Config.Tables) (k : OutChannel) (s : State)
    (h : 40 < (s.sig.level.get k).toNat) :
    pwmChannel T k s = .fault (.gammaIndexOutOfRange k (s.sig.level.get k)) := by
  rw [pwmChannel, gammaOp_fault T k s h, andThen_fault]

/-- The first channel whose level has no table entry is the one that faults
(45_gamma_dither_pwm.md R167). -/
theorem pwmChannels_fault (T : Config.Tables) {ks : List OutChannel} {k : OutChannel}
    {L : PerOut Byte} (hk : ks.find? (fun j => 40 < (L.get j).toNat) = some k) (s : State)
    (hL : s.sig.level = L) :
    pwmChannels T ks s = .fault (.gammaIndexOutOfRange k (L.get k)) := by
  induction ks generalizing s with
  | nil => cases hk
  | cons j rest ih =>
    rw [pwmChannels]
    by_cases hj : 40 < (L.get j).toNat
    · obtain rfl : j = k := by simpa [List.find?_cons, hj] using hk
      subst hL
      rw [pwmChannel_fault T j s hj, andThen_fault]
    · obtain ⟨g, hg, -, hrun⟩ := pwmChannel_next T j s hL rfl (by omega)
      rw [hrun, andThen_next]
      exact ih (by simpa [List.find?_cons, hj] using hk) _ hg

/-- Slots 0 to 20 leave the registers of the pseudocode; the slots behind them add the duties, the
counter and the return. -/
theorem levelStages_eq_pseudoNext (T : Config.Tables) (w : InWord) (s : State) :
    { levelStages (presentWord w s) with
      tick := nextTick s.tick
      duty := (pseudoNext T w s).duty
      sig := Signals.dead } = pseudoNext T w s := by
  have hphase := perColour_eq_ofNat fun c =>
    (congrArg BitVec.toNat (levelStages_lastPhase w s c)).trans (phaseCode_toNat _ _)
  have hrpt : (levelStages (presentWord w s)).rpt = BitVec.ofNat 16 (pseudoRpt w s) := by
    simp [← levelStages_rpt]
  have htick : nextTick s.tick = BitVec.ofNat 8 ((s.tick.toNat + 1) % 256) := by
    simp [← nextTick_toNat]
  simp only [levelStages_ports, levelStages_stimulus, levelStages_ts, levelStages_ct0, levelStages_ct1,
    hphase, hrpt, htick, perColour_eq_ofNat (levelStages_target w s),
    perColour_eq_ofNat (levelStages_current w s)]
  rfl

/-- The duties of the pseudocode are `PWMENC` of the levels that slot 20 leaves. -/
theorem pwmEncoded_levelStages_eq_pseudoNext (T : Config.Tables) (w : InWord) (s : State)
    {L : PerOut Byte} (hL : (levelStages (presentWord w s)).sig.level = L) :
    (⟨pwmEncoded T L.red s.tick, pwmEncoded T L.green s.tick, pwmEncoded T L.blue s.tick,
      pwmEncoded T L.white s.tick⟩ : PerOut Byte) = (pseudoNext T w s).duty := by
  refine perOut_eq_ofNat (f := fun k => pseudoDuty T (pseudoLevel w s k) s.tick.toNat) fun k => ?_
  rw [← levelStages_level, hL, ← pwmEncoded_toNat]
  cases k <;> rfl

/-- A tick whose levels all have a table entry completes with the registers of the pseudocode. -/
theorem tickOp_next (T : Config.Tables) (w : InWord) (s : State)
    (h : ∀ k, pseudoLevel w s k ≤ 40) : tickOp T w s = .next (pseudoNext T w s) := by
  have hlt : ∀ k, ((levelStages (presentWord w s)).sig.level.get k).toNat < 41 := fun k => by
    rw [levelStages_level]; exact Nat.lt_succ_of_le (h k)
  obtain ⟨g, hg, hrun⟩ := pwmStage_next T _ rfl (levelStages_t w s) hlt
  rw [tickOp, hrun, pwmEncoded_levelStages_eq_pseudoNext T w s rfl, andThen_next,
    ← levelStages_eq_pseudoNext]
  simp only [tickReturn, tickincOp, setSignals, hg]

/-- A tick faults at the first channel whose level has no table entry. -/
theorem tickOp_fault (T : Config.Tables) {w : InWord} {s : State} {k : OutChannel}
    (h : [OutChannel.red, .green, .blue, .white].find? (fun j => 40 < pseudoLevel w s j) = some k) :
    tickOp T w s =
      .fault (.gammaIndexOutOfRange k (BitVec.ofNat 8 (pseudoLevel w s k))) := by
  simp only [← levelStages_level] at h
  rw [tickOp, pwmStage_eq_pwmChannels, pwmChannels_fault T h _ rfl, andThen_fault,
    ← levelStages_level, BitVec.ofNat_toNat, BitVec.setWidth_eq]

/-- TICK is the pseudocode of R183, fault included. -/
theorem tickOp_eq_tickPseudocode (T : Config.Tables) (w : InWord) (s : State) :
    tickOp T w s = tickPseudocode T w s := by
  unfold tickPseudocode
  split
  next k hk => exact tickOp_fault T hk
  next hnone =>
    refine tickOp_next T w s fun k => ?_
    have hk := List.find?_eq_none.mp hnone k (by cases k <;> simp)
    simpa using hk

theorem exec_tick_eq_next {w : InWord} {s t : State} (h : exec (.tick w) s = .next t) :
    t = pseudoNext Config.tables w s := by
  have h' : tickPseudocode Config.tables w s = .next t :=
    (tickOp_eq_tickPseudocode Config.tables w s).symm.trans h
  unfold tickPseudocode at h'
  split at h'
  · cases h'
  · exact (Host.Outcome.next.inj h').symm

/-- The pseudocode reads registers and the word only. -/
theorem tickPseudocode_congr (T : Config.Tables) (w : InWord) {s u : State}
    (h : s.SameRegisters u) (hstim : s.stimulus = u.stimulus) :
    tickPseudocode T w s = tickPseudocode T w u := by
  obtain ⟨_, _, _, _, _, _, _, _, _, _, _, _⟩ := s
  obtain ⟨_, _, _, _, _, _, _, _, _, _, _, _⟩ := u
  obtain ⟨rfl, rfl, rfl, rfl, rfl, rfl, rfl, rfl, rfl⟩ := h
  obtain rfl := hstim
  rfl

/-- Settles O41: TICK is its pseudocode, which reads no signal and no old port level. -/
theorem nothingElseSurvivesATick : Obligations.NothingElseSurvivesATick := by
  intro w s u hregs hstim
  calc exec (.tick w) s
      _ = tickPseudocode Config.tables w s := tickOp_eq_tickPseudocode _ w s
      _ = tickPseudocode Config.tables w u := tickPseudocode_congr _ w hregs hstim
      _ = exec (.tick w) u := (tickOp_eq_tickPseudocode _ w u).symm

/-! ## The bound on the duties (45_gamma_dither_pwm.md R172) -/

theorem dutyValue_le (pwm : Byte) (x : BitVec 1) : (dutyValue pwm x).toNat ≤ 64 := by
  have hpwm := pwm.isLt
  have hx := x.isLt
  rw [dutyValue_toNat]
  omega

theorem pseudoDuty_le (T : Config.Tables) (level t : Nat) : pseudoDuty T level t ≤ 64 := by
  have hpwm := (T.gamma (Fin.ofNat 41 level)).isLt
  unfold pseudoDuty
  dsimp only
  omega

theorem pseudoNext_duty (T : Config.Tables) (w : InWord) (s : State) (k : OutChannel) :
    (pseudoNext T w s).duty.get k =
      BitVec.ofNat 8 (pseudoDuty T (pseudoLevel w s k) s.tick.toNat) := by
  cases k <;> rfl

/-- Settles O54: every duty of a completed tick is a duty value of the pseudocode. -/
theorem tickEndsWithDutyAtMost64 : Obligations.TickEndsWithDutyAtMost64 := by
  intro w s t h k
  obtain rfl := exec_tick_eq_next h
  rw [pseudoNext_duty, BitVec.toNat_ofNat]
  exact (Nat.mod_le _ _).trans (pseudoDuty_le _ _ _)

/-! ## Who writes which register (10_state.md R30) -/

/-- GAMMA writes signals only. -/
theorem exec_gamma_next {k : OutChannel} {s t : State} (h : exec (.gamma k) s = .next t) :
    ∃ pwm, t = setSignals { s.sig with pwm := pwm } s := by
  rcases gammaOp_cases Config.tables k s with ⟨hlt, hrun⟩ | ⟨-, hrun⟩
  · exact ⟨_, Host.Outcome.next.inj (h.symm.trans hrun)⟩
  · cases h.symm.trans hrun

/-- Settles O55: an operation other than GAMMA answers one of the named updates of the state, whose
frame lemmas say which registers it keeps; GAMMA writes signals only. -/
theorem onlyTheListedOperationsWrite : Obligations.OnlyTheListedOperationsWrite := by
  intro i s t h htick hreset
  cases i with
  | tick w => exact absurd rfl (htick w)
  | reset => exact absurd rfl hreset
  | gamma k =>
    obtain ⟨pwm, rfl⟩ := exec_gamma_next h
    simp
  | sample | debounce | press | longpress | tclear | decomp | tickinc | phase | qdec | tstep | ttoggle
  | fade | dither | duty =>
    obtain rfl := Host.Outcome.next.inj h
    simp

/-! ## The ranges (10_state.md R39 to R41; 44_rgbw_decomposer.md R158) -/

/-! ### Values -/

theorem perColour_set_le {n : Nat} {v : PerColour Byte} {a : Byte} (c : Colour)
    (hv : ∀ d, (v.get d).toNat ≤ n) (ha : a.toNat ≤ n) (d : Colour) :
    ((v.set c a).get d).toNat ≤ n := by
  rw [PerColour.get_set]
  split
  · exact ha
  · exact hv d

theorem perOut_set_le {n : Nat} {v : PerOut Byte} {a : Byte} (k : OutChannel)
    (hv : ∀ j, (v.get j).toNat ≤ n) (ha : a.toNat ≤ n) (j : OutChannel) :
    ((v.set k a).get j).toNat ≤ n := by
  rw [PerOut.get_set]
  split
  · exact ha
  · exact hv j

theorem steppedTarget_le (m : Move) {v : Byte} (h : v.toNat ≤ 40) :
    (steppedTarget m v).toNat ≤ 40 := by
  rw [steppedTarget_toNat]
  cases m
  case none => exact h
  case inc => exact Nat.min_le_right _ _
  case dec => exact (Nat.sub_le _ _).trans h

theorem toggledTarget_le (v : Byte) : (toggledTarget v).toNat ≤ 40 := by
  rw [toggledTarget_toNat]
  split <;> decide

/-- FADE does not pass its target, so it keeps every bound that both levels keep. -/
theorem fadedLevel_le {n : Nat} {target current : Byte} (ht : target.toNat ≤ n)
    (hc : current.toNat ≤ n) : (fadedLevel target current).toNat ≤ n := by
  have hfade := fadedLevel_toNat target current
  rcases lt_trichotomy ((target.toNat : Int) - current.toNat) 0 with hlt | heq | hgt
  · rw [Int.sign_eq_neg_one_of_neg hlt] at hfade; omega
  · rw [heq, Int.sign_zero] at hfade; omega
  · rw [Int.sign_eq_one_of_pos hgt] at hfade; omega

theorem decomposed_le {n : Nat} {v : PerColour Byte} (h : ∀ c, (v.get c).toNat ≤ n)
    (k : OutChannel) : ((decomposed v).get k).toNat ≤ n := by
  have hcolour : ∀ c : Colour, ((decomposed v).get c.out).toNat ≤ n := fun c => by
    rw [decomposed_colour_toNat]
    exact (Nat.sub_le _ _).trans (h c)
  cases k with
  | red => exact hcolour .red
  | green => exact hcolour .green
  | blue => exact hcolour .blue
  | white =>
    rw [decomposed_white_toNat]
    exact (Nat.min_le_left _ _).trans (h .red)

/-! ### The named updates of the state -/

section updates
variable {s : State}

theorem State.InRange.target_le (h : s.InRange) (c : Colour) : (s.target.get c).toNat ≤ 40 :=
  (h.1 c).1

theorem State.InRange.current_le (h : s.InRange) (c : Colour) : (s.current.get c).toNat ≤ 40 :=
  (h.1 c).2

theorem State.InRange.level_le (h : s.InRange) (k : OutChannel) :
    (s.sig.level.get k).toNat ≤ 40 := h.2.1 k

theorem State.InRange.duty_le (h : s.InRange) (k : OutChannel) : (s.duty.get k).toNat ≤ 64 :=
  h.2.2 k

/-- The ranges speak of targets, current levels, the signal level and duties only. -/
theorem State.InRange.of_eq {t : State} (h : s.InRange) (htarget : t.target = s.target)
    (hcurrent : t.current = s.current) (hlevel : t.sig.level = s.sig.level)
    (hduty : t.duty = s.duty) : t.InRange := by
  simpa only [State.InRange, State.LevelsInRange, htarget, hcurrent, hlevel, hduty] using h

theorem setTarget_inRange (h : s.InRange) (c : Colour) {v : Byte} (hv : v.toNat ≤ 40) :
    (setTarget c v s).InRange :=
  ⟨fun d => ⟨perColour_set_le c h.target_le hv d, h.current_le d⟩, h.level_le, h.duty_le⟩

theorem setCurrent_inRange (h : s.InRange) (c : Colour) {v : Byte} (hv : v.toNat ≤ 40) :
    (setCurrent c v s).InRange :=
  ⟨fun d => ⟨h.target_le d, perColour_set_le c h.current_le hv d⟩, h.level_le, h.duty_le⟩

theorem setDuty_inRange (h : s.InRange) (k : OutChannel) {v : Byte} (hv : v.toNat ≤ 64) :
    (setDuty k v s).InRange :=
  ⟨h.1, h.level_le, perOut_set_le k h.duty_le hv⟩

theorem setSignals_inRange (h : s.InRange) {g : Signals} (hg : ∀ k, (g.level.get k).toNat ≤ 40) :
    (setSignals g s).InRange :=
  ⟨h.1, hg, h.duty_le⟩

theorem popRequest_inRange (h : s.InRange) : (popRequest s).InRange := h.of_eq rfl rfl rfl rfl

theorem presentWord_inRange (h : s.InRange) (w : InWord) : (presentWord w s).InRange :=
  h.of_eq rfl rfl rfl rfl

theorem tickReturn_inRange (h : s.InRange) : (tickReturn s).InRange :=
  setSignals_inRange h fun k => by simp [Signals.dead]

/-! ### The operations that write what the ranges speak of -/

theorem tstepOp_inRange (h : s.InRange) (c : Colour) : (tstepOp c s).InRange :=
  setTarget_inRange h c (steppedTarget_le _ (h.target_le c))

theorem ttoggleOp_inRange (h : s.InRange) (c : Colour) : (ttoggleOp c s).InRange := by
  unfold ttoggleOp
  split
  · exact setTarget_inRange h c (toggledTarget_le _)
  · exact h

theorem tclearOp_inRange (h : s.InRange) : (tclearOp s).InRange := by
  unfold tclearOp
  split
  · exact ⟨fun c => ⟨by simp, h.current_le c⟩, h.level_le, h.duty_le⟩
  · exact h

theorem fadeOp_inRange (h : s.InRange) (c : Colour) : (fadeOp c s).InRange := by
  unfold fadeOp
  split
  · exact setCurrent_inRange h c (fadedLevel_le (h.target_le c) (h.current_le c))
  · exact h

theorem decompOp_inRange (h : s.InRange) : (decompOp s).InRange :=
  setSignals_inRange h (decomposed_le h.current_le)

theorem dutyOp_inRange (h : s.InRange) (k : OutChannel) : (dutyOp k s).InRange :=
  setDuty_inRange h k (dutyValue_le _ _)

end updates

/-- Settles O49: the registers of the ranges and the signal level are all 0 after reset. -/
theorem rangesHoldAtReset : Obligations.RangesHoldAtReset :=
  ⟨fun c => by simp [State.reset], fun k => by simp [State.reset, Signals.dead],
    fun k => by simp [State.reset]⟩

theorem resetRegisters_inRange (s : State) : (resetRegisters s).InRange :=
  State.InRange.of_eq rangesHoldAtReset rfl rfl rfl rfl

/-! ### Results: no fault, and a next state in range -/

/-- What a step from a state in range may answer: a next state in range or a refusal, never a
fault. -/
def StaysInRange (r : Result) : Prop :=
  match r with
  | .next t => t.InRange
  | .fault _ => False
  | .refused _ => True

theorem StaysInRange.next_inRange {r : Result} {t : State} (h : StaysInRange r)
    (hr : r = .next t) : t.InRange := by
  subst hr; exact h

theorem StaysInRange.ne_fault {r : Result} (h : StaysInRange r) (e : Fault) : r ≠ .fault e := by
  rintro rfl; exact h

theorem StaysInRange.andThen {r : Result} {f : State → Result} (hr : StaysInRange r)
    (hf : ∀ s : State, s.InRange → StaysInRange (f s)) : StaysInRange (andThen r f) := by
  cases r with
  | next s => exact hf s hr
  | fault e => exact hr
  | refused e => trivial

/-- GAMMA of a level in range finds its table entry. -/
theorem gammaOp_staysInRange (T : Config.Tables) {s : State} (h : s.InRange) (k : OutChannel) :
    StaysInRange (gammaOp T k s) := by
  rw [gammaOp_next T k s (Nat.lt_succ_of_le (h.level_le k))]
  exact setSignals_inRange h h.level_le

/-- Every instruction but TICK, that is every slot of a tick, and RESET. -/
theorem exec_operation_staysInRange {i : Instr} (hi : ∀ w, i ≠ .tick w) {s : State}
    (h : s.InRange) : StaysInRange (exec i s) := by
  cases i with
  | tick w => exact absurd rfl (hi w)
  | sample | phase | qdec | debounce | press | longpress | dither | tickinc =>
    exact h.of_eq rfl rfl rfl rfl
  | tstep c => exact tstepOp_inRange h c
  | ttoggle c => exact ttoggleOp_inRange h c
  | tclear => exact tclearOp_inRange h
  | fade c => exact fadeOp_inRange h c
  | decomp => exact decompOp_inRange h
  | gamma k => exact gammaOp_staysInRange Config.tables h k
  | duty k => exact dutyOp_inRange h k
  | reset => exact resetRegisters_inRange s

theorem runInstrs_staysInRange {is : List Instr} (his : ∀ i ∈ is, ∀ w, i ≠ .tick w) {s : State}
    (h : s.InRange) : StaysInRange (runInstrs is s) := by
  induction is generalizing s with
  | nil => exact h
  | cons i is ih =>
    obtain ⟨hi, hrest⟩ := List.forall_mem_cons.mp his
    exact (exec_operation_staysInRange hi h).andThen fun u hu => ih hrest hu

theorem tickSchedule_ne_tick : ∀ i ∈ tickSchedule, ∀ w, i ≠ .tick w := by
  simp [tickSchedule]

theorem exec_staysInRange (i : Instr) {s : State} (h : s.InRange) : StaysInRange (exec i s) := by
  by_cases hi : ∀ w, i ≠ .tick w
  · exact exec_operation_staysInRange hi h
  · push Not at hi
    obtain ⟨w, rfl⟩ := hi
    rw [exec_tick_eq_schedule]
    exact (runInstrs_staysInRange tickSchedule_ne_tick (presentWord_inRange h w)).andThen
      fun u hu => tickReturn_inRange hu

/-- The inductive step of the safety of CORE, for any request. -/
theorem step_staysInRange {s : State} (h : s.InRange) : StaysInRange (step s) := by
  rcases step_cases s with hidle | ⟨i, hexec⟩ | ⟨e, hrefused⟩
  · rw [hidle]; exact popRequest_inRange h
  · rw [hexec]; exact exec_staysInRange i (popRequest_inRange h)
  · rw [hrefused]; trivial

/-- Settles O50: a TICK is its schedule, every operation keeps the ranges, and so does an idle step. -/
theorem stepKeepsTheRanges : Obligations.StepKeepsTheRanges :=
  fun _ _ h hstep => (step_staysInRange h).next_inRange hstep

theorem core_run_staysInRange (n : Nat) {s : State} (h : s.InRange) :
    StaysInRange (Host.Core.run Sys2Proof.core n s) := by
  induction n generalizing s with
  | zero => exact h
  | succ n ih =>
    have hs := step_staysInRange h
    cases hstep : step s with
    | next t =>
      rw [core_run_next n hstep]
      exact ih (hs.next_inRange hstep)
    | fault e => exact absurd hstep (hs.ne_fault e)
    | refused e =>
      rw [core_run_refused n hstep]
      trivial

/-- Settles O52: the ranges hold in the reset state whatever the stimulus, and hold along every run. -/
theorem noRunFromResetFaults : Obligations.NoRunFromResetFaults := by
  intro requests n e
  have hreset : ({ State.reset with stimulus := requests } : State).InRange :=
    State.InRange.of_eq rangesHoldAtReset rfl rfl rfl rfl
  exact (core_run_staysInRange n hreset).ne_fault e

/-! ## RESET (46_tick_dispatcher.md R186) -/

/-- Settles O45: RESET overwrites everything but the ports and the stimulus, by its definition. -/
theorem resetWritesEveryRegister : Obligations.ResetWritesEveryRegister :=
  fun _ => rfl

/-- Settles O46: the reset state holds 750 in `rpt` and the same 0 in every duty. -/
theorem resetLoadsTheStatedValues : Obligations.ResetLoadsTheStatedValues :=
  ⟨rfl, PerOut.get_all 0#8⟩

end Sys2Proof.Machine
end

section
/-! PROOFS. The boundary (20_memory.md): what a step does with the request it takes, and a stimulus of
input words as the ticks it asks for. -/

namespace Sys2Proof.Machine

open Sys2Proof

/-! ## One request (20_memory.md R52; 60_exceptions.md R206) -/

/-- The request that asks for nothing has no word to decode. -/
theorem not_silent_of_decodeRequest_ok {q : Request} {i : Instr} (h : decodeRequest q = .ok i) :
    ¬(q.rst = false ∧ q.word = []) := by
  rintro ⟨hrst, hword⟩
  simp [decodeRequest, decodeWord, hrst, hword] at h

theorem pendingRequest_of_decode {s : State} {q : Request} {rest : List Request} {i : Instr}
    (hs : s.stimulus = q :: rest) (hq : decodeRequest q = .ok i) : pendingRequest s = some q := by
  simp [pendingRequest, hs, not_silent_of_decodeRequest_ok hq]

theorem popRequest_of_cons {s : State} {q : Request} {rest : List Request}
    (hs : s.stimulus = q :: rest) : popRequest s = { s with stimulus := rest } := by
  simp [popRequest, hs]

theorem step_of_decode {s : State} {q : Request} {rest : List Request} {i : Instr}
    (hs : s.stimulus = q :: rest) (hq : decodeRequest q = .ok i) :
    step s = exec i { s with stimulus := rest } := by
  simp only [step, pendingRequest_of_decode hs hq, hq, popRequest_of_cons hs]

/-- Settles O6: a request that decodes is pending, and taking it removes it from the stimulus. -/
theorem stepRunsTheDecodedInstruction : Obligations.StepRunsTheDecodedInstruction :=
  fun _ _ _ _ hs hq => step_of_decode hs hq

/-! ## One tick of a stimulus -/

/-- The two bytes that `tickRequest` packs a word into give the word back. -/
theorem inWord_eq_append (w : InWord) :
    ((w.extractLsb' 8 1).setWidth 8).setWidth 1 ++ w.setWidth 8 = w := by
  refine BitVec.eq_of_getLsbD_eq fun i hi => ?_
  rw [BitVec.getLsbD_append]
  by_cases hlow : i < 8
  · simp [hlow]
  · obtain rfl : i = 8 := by omega
    simp

theorem decodeRequest_tickRequest (w : InWord) : decodeRequest (tickRequest w) = .ok (.tick w) := by
  have hhi : ((w.extractLsb' 8 1).setWidth 8).toNat < 2 := by
    have h := (w.extractLsb' 8 1).isLt
    rw [BitVec.toNat_setWidth]
    omega
  simp only [decodeRequest, tickRequest, decodeWord, Bool.false_eq_true, if_false, hhi, if_true,
    inWord_eq_append]

/-- The pseudocode neither reads nor writes what the environment will present next. -/
theorem tickPseudocode_withStimulus (T : Config.Tables) (w : InWord) (s : State) (l : List Request) :
    tickPseudocode T w { s with stimulus := l } =
      andThen (tickPseudocode T w s) fun t => .next { t with stimulus := l } := by
  have hlevel (k : OutChannel) : pseudoLevel w { s with stimulus := l } k = pseudoLevel w s k := rfl
  simp only [tickPseudocode, hlevel]
  split <;> rfl

theorem exec_tick_withStimulus (w : InWord) (s : State) (l : List Request) :
    exec (.tick w) { s with stimulus := l } =
      andThen (exec (.tick w) s) fun t => .next { t with stimulus := l } := by
  have hexec (u : State) : exec (.tick w) u = tickPseudocode Config.tables w u :=
    tickOp_eq_tickPseudocode Config.tables w u
  rw [hexec, hexec s, tickPseudocode_withStimulus]

theorem andThen_exec_tick_withStimulus (w : InWord) (s : State) (l : List Request)
    (f : State → Result) :
    andThen (exec (.tick w) { s with stimulus := l }) f =
      andThen (exec (.tick w) s) fun t => f { t with stimulus := l } := by
  rw [exec_tick_withStimulus w s l, andThen_assoc]
  rfl

/-! ## A whole stimulus (20_memory.md R61; 30_encoding.md R89) -/

/-- A run is its first step and then the run from there. -/
theorem core_run_succ (n : Nat) (s : State) :
    Host.Core.run Sys2Proof.core (n + 1) s = andThen (step s) (Host.Core.run Sys2Proof.core n) := by
  cases h : step s with
  | next t => exact core_run_next n h
  | fault e => exact core_run_fault n h
  | refused e => exact core_run_refused n h

/-- Settles O56: by induction on the words, each step being the tick on the next one, whatever is still
to come behind it. -/
theorem steppingAStimulusRunsItsTicks : Obligations.SteppingAStimulusRunsItsTicks := by
  intro ws
  induction ws with
  | nil => exact fun s => rfl
  | cons w ws ih =>
    intro s
    have hstep : step { s with stimulus := (w :: ws).map tickRequest } =
        exec (.tick w) { s with stimulus := ws.map tickRequest } :=
      step_of_decode rfl (decodeRequest_tickRequest w)
    refine (core_run_succ ws.length _).trans ?_
    calc andThen (step { s with stimulus := (w :: ws).map tickRequest })
          (Host.Core.run Sys2Proof.core ws.length)
        _ = andThen (exec (.tick w) s) fun t =>
              Host.Core.run Sys2Proof.core ws.length { t with stimulus := ws.map tickRequest } :=
          (congrArg (andThen · _) hstep).trans (andThen_exec_tick_withStimulus w s _ _)
        _ = andThen (exec (.tick w) s) fun t => runTicks ws { t with stimulus := [] } :=
          congrArg (andThen _) (funext ih)
        _ = runTicks (w :: ws) { s with stimulus := [] } :=
          (andThen_exec_tick_withStimulus w s [] _).symm

end Sys2Proof.Machine
end

section
/-! PROOFS. The encoding (30_encoding.md): the fields of an OP word, the decoder and the encoder against
each other, and what the decoder refuses; then three operations that go by the place of a bit: SAMPLE,
FADE and DITHER. -/

namespace Sys2Proof.Machine

open Sys2Proof

/-! ## The fields of an OP word (30_encoding.md R80, R84) -/

@[simp] theorem opField_append (op : BitVec 4) (ch : BitVec 2) : opField (op ++ ch) = op.toNat :=
  congrArg BitVec.toNat BitVec.extractLsb'_append_eq_left

@[simp] theorem chField_append (op : BitVec 4) (ch : BitVec 2) : chField (op ++ ch) = ch.toNat :=
  congrArg BitVec.toNat BitVec.extractLsb'_append_eq_right

/-- The two fields determine the word. -/
theorem append_eq_of_fields {w : OpWord} {op : BitVec 4} {ch : BitVec 2}
    (hop : opField w = op.toNat) (hch : chField w = ch.toNat) : op ++ ch = w := by
  rw [← BitVec.eq_of_toNat_eq hop, ← BitVec.eq_of_toNat_eq hch]
  exact BitVec.extractLsb'_append_extractLsb'

theorem opField_lt (w : OpWord) : opField w < 16 := (w.extractLsb' 2 4).isLt

theorem chField_lt (w : OpWord) : chField w < 4 := (w.extractLsb' 0 2).isLt

/-! ## The words as bytes -/

/-- The request that presents an OP word. -/
def opWordRequest (w : OpWord) : Request := { rst := false, word := [w.setWidth 8] }

theorem opRequest_eq (op : BitVec 4) (ch : BitVec 2) : opRequest op ch = opWordRequest (op ++ ch) := rfl

/-- A byte of no more than 6 bits is the OP word it holds. -/
theorem opWordRequest_setWidth {b : Byte} (hb : b.toNat < 64) :
    opWordRequest (b.setWidth 6) = { rst := false, word := [b] } := by
  have hbyte : (b.setWidth 6).setWidth 8 = b := by bv_omega
  rw [opWordRequest, hbyte]

/-- Two bytes of no more than 9 bits are the input word they hold. -/
theorem tickRequest_append (lo : Byte) {hi : Byte} (hhi : hi.toNat < 2) :
    tickRequest (hi.setWidth 1 ++ lo) = { rst := false, word := [lo, hi] } := by
  have hlow : (hi.setWidth 1 ++ lo).setWidth 8 = lo := by
    rw [BitVec.setWidth_append]; simp
  have hhigh : ((hi.setWidth 1 ++ lo).extractLsb' 8 1).setWidth 8 = hi := by
    rw [BitVec.extractLsb'_append_eq_left]; bv_omega
  rw [tickRequest, hlow, hhigh]

theorem toNat_opByte_lt (w : OpWord) : (w.setWidth 8).toNat < 64 := by
  rw [BitVec.toNat_setWidth_of_le (by decide)]
  exact w.isLt

theorem setWidth_opByte (w : OpWord) : (w.setWidth 8).setWidth 6 = w := by simp

theorem decodeRequest_opWordRequest (w : OpWord) : decodeRequest (opWordRequest w) = decodeOp w := by
  simp only [decodeRequest, opWordRequest, decodeWord, Bool.false_eq_true, if_false,
    toNat_opByte_lt w, if_true, setWidth_opByte]

theorem wellFormed_opWordRequest (w : OpWord) :
    (opWordRequest w).wellFormed = OpWord.wellFormed w := by
  simp only [Request.wellFormed, opWordRequest, Bool.false_or, toNat_opByte_lt w, decide_true,
    Bool.true_and, setWidth_opByte]

/-! ## The channel of an operation (30_encoding.md R81, R86) -/

@[simp] theorem decodeOnColour_colourBits (c : Colour) (f : Colour → Instr) :
    decodeOnColour (colourBits c).toNat f = .ok (f c) := by
  cases c <;> rfl

@[simp] theorem outOfBits_outBits (k : OutChannel) : outOfBits (outBits k).toNat = k := by
  cases k <;> rfl

theorem outBits_outOfBits {ch : Nat} (hch : ch < 4) : (outBits (outOfBits ch)).toNat = ch := by
  revert ch; decide

theorem colourBits_of_colourOfBits {ch : Nat} {c : Colour} (h : colourOfBits ch = some c) :
    ch = (colourBits c).toNat := by
  unfold colourOfBits at h
  split at h <;> cases h <;> rfl

theorem eq_three_of_colourOfBits_none {ch : Nat} (hch : ch < 4) (h : colourOfBits ch = none) :
    ch = 3 := by
  revert ch; decide

theorem decodeOnColour_ok {ch : Nat} {f : Colour → Instr} {i : Instr}
    (h : decodeOnColour ch f = .ok i) : ∃ c, ch = (colourBits c).toNat ∧ i = f c := by
  unfold decodeOnColour at h
  split at h
  next c hc => cases h; exact ⟨c, colourBits_of_colourOfBits hc, rfl⟩
  next => cases h

theorem decodeOnColour_error {ch : Nat} (hch : ch < 4) {f : Colour → Instr} {e : DecodeError}
    (h : decodeOnColour ch f = .error e) : e = .reservedColour ∧ ch = 3 := by
  unfold decodeOnColour at h
  split at h
  next => cases h
  next hnone => cases h; exact ⟨rfl, eq_three_of_colourOfBits_none hch hnone⟩

theorem decodeNoChannel_ok {ch : Nat} {i j : Instr} (h : decodeNoChannel ch j = .ok i) :
    ch = 0 ∧ i = j := by
  unfold decodeNoChannel at h
  split at h
  next hch => cases h; exact ⟨hch, rfl⟩
  next => cases h

theorem decodeNoChannel_error {ch : Nat} {j : Instr} {e : DecodeError}
    (h : decodeNoChannel ch j = .error e) : e = .reservedChannelField ∧ ch ≠ 0 := by
  unfold decodeNoChannel at h
  split at h
  next => cases h
  next hch => cases h; exact ⟨rfl, hch⟩

/-! ## From an instruction to its word and back (30_encoding.md R85) -/

theorem decodeRequest_opRequest (op : BitVec 4) (ch : BitVec 2) :
    decodeRequest (opRequest op ch) = decodeOp (op ++ ch) :=
  decodeRequest_opWordRequest (op ++ ch)

theorem decodeRequest_encode (i : Instr) : decodeRequest (encode i) = .ok i := by
  cases i with
  | sample | debounce | press | longpress | tclear | decomp | tickinc =>
    rfl
  | phase _ | qdec _ | tstep _ | ttoggle _ | fade _ | gamma _ | dither _ | duty _ =>
    simp [encode, decodeRequest_opRequest, decodeOp]
  | tick w => exact decodeRequest_tickRequest w
  | reset => rfl

/-- Settles O1, one case for each kind of operand. -/
theorem decodeInvertsEncode : Obligations.DecodeInvertsEncode := decodeRequest_encode

theorem decodeTableWord_of_encode {nbits w : Nat} {i : Instr}
    (h : requestOfTableWord nbits w = encode i) : decodeTableWord nbits w = some i := by
  rw [decodeTableWord, h, decodeRequest_encode]
  rfl

/-- Settles O4: each word is presented as the encoder presents its instruction. -/
theorem writtenOutWordsDecode : Obligations.WrittenOutWordsDecode :=
  ⟨decodeTableWord_of_encode rfl, decodeTableWord_of_encode rfl, decodeTableWord_of_encode rfl,
    decodeTableWord_of_encode rfl, decodeTableWord_of_encode rfl, decodeTableWord_of_encode rfl,
    decodeTableWord_of_encode rfl, decodeTableWord_of_encode rfl⟩

/-! ## From a word to its instruction and back (30_encoding.md R85, R86) -/

section rows
variable {w : OpWord} {op : BitVec 4}

theorem encode_eq_of_fields {ch : BitVec 2} {i : Instr} (hi : encode i = opRequest op ch)
    (hop : opField w = op.toNat) (hch : chField w = ch.toNat) : encode i = opWordRequest w := by
  rw [hi, opRequest_eq, append_eq_of_fields hop hch]

/-- A row of R85 without a channel. -/
theorem encode_of_decodeNoChannel {i j : Instr} (h : decodeNoChannel (chField w) j = .ok i)
    (hj : encode j = opRequest op 0b00#2) (hop : opField w = op.toNat) :
    encode i = opWordRequest w := by
  obtain ⟨hch, rfl⟩ := decodeNoChannel_ok h
  exact encode_eq_of_fields hj hop hch

/-- A row of R85 on a colour channel. -/
theorem encode_of_decodeOnColour {f : Colour → Instr} {i : Instr}
    (h : decodeOnColour (chField w) f = .ok i)
    (hf : ∀ c, encode (f c) = opRequest op (colourBits c)) (hop : opField w = op.toNat) :
    encode i = opWordRequest w := by
  obtain ⟨c, hch, rfl⟩ := decodeOnColour_ok h
  exact encode_eq_of_fields (hf c) hop hch

/-- A row of R85 on an output channel. -/
theorem encode_of_outOfBits {f : OutChannel → Instr}
    (hf : ∀ k, encode (f k) = opRequest op (outBits k)) (hop : opField w = op.toNat) :
    encode (f (outOfBits (chField w))) = opWordRequest w :=
  encode_eq_of_fields (hf _) hop (outBits_outOfBits (chField_lt w)).symm

end rows

/-- Each row of R85 that decodes is the row it encodes to. -/
theorem encode_of_decodeOp {w : OpWord} {i : Instr} (h : decodeOp w = .ok i) :
    encode i = opWordRequest w := by
  unfold decodeOp at h
  split at h
  case h_1 hop | h_5 hop | h_6 hop | h_8 hop | h_9 hop | h_11 hop | h_15 hop =>
    exact encode_of_decodeNoChannel h rfl hop
  case h_2 hop | h_3 hop | h_4 hop | h_7 hop | h_10 hop =>
    exact encode_of_decodeOnColour h (fun _ => rfl) hop
  case h_12 hop | h_13 hop | h_14 hop =>
    cases h; exact encode_of_outOfBits (fun _ => rfl) hop
  case h_16 => cases h

theorem encode_of_decodeWord {bytes : List Byte} {i : Instr} (h : decodeWord bytes = .ok i) :
    encode i = { rst := false, word := bytes } := by
  unfold decodeWord at h
  split at h
  next b =>
    split at h
    next hb => exact (encode_of_decodeOp h).trans (opWordRequest_setWidth hb)
    next => cases h
  next lo hi =>
    split at h
    next hhi => cases h; exact tickRequest_append lo hhi
    next => cases h
  next => cases h

/-- Settles O2, by the length of the word. -/
theorem encodeInvertsDecode : Obligations.EncodeInvertsDecode :=
  fun _ _ h => encode_of_decodeWord h

/-! ## What the decoder refuses (30_encoding.md R86) -/

/-- The one pattern of R86 that a refused OP word has, with the reason the decoder names for it. -/
theorem decodeOp_error {w : OpWord} {e : DecodeError} (h : decodeOp w = .error e) :
    (e = .reservedOperation ∧ w.reservedOperation = true) ∨
    (e = .reservedColour ∧ w.reservedColour = true) ∨
    (e = .reservedChannelField ∧ w.reservedChannelField = true) := by
  have hopWord : w.op = opField w := rfl
  have hchWord : w.ch = chField w := rfl
  unfold decodeOp at h
  split at h
  case h_1 hop | h_5 hop | h_6 hop | h_8 hop | h_9 hop | h_11 hop | h_15 hop =>
    obtain ⟨rfl, hch⟩ := decodeNoChannel_error h
    exact .inr (.inr ⟨rfl, by simp [OpWord.reservedChannelField, hopWord, hchWord, hop, hch]⟩)
  case h_2 hop | h_3 hop | h_4 hop | h_7 hop | h_10 hop =>
    obtain ⟨rfl, hch⟩ := decodeOnColour_error (chField_lt w) h
    exact .inr (.inl ⟨rfl, by simp [OpWord.reservedColour, hopWord, hchWord, hop, hch]⟩)
  case h_12 | h_13 | h_14 => cases h
  case h_16 =>
    cases h
    have hop : opField w = 15 := by
      have hlt := opField_lt w
      simp only [imp_false] at *
      omega
    exact .inl ⟨rfl, by simp [OpWord.reservedOperation, hopWord, hop]⟩

theorem decodeOp_ok_of_wellFormed {w : OpWord} (hw : w.wellFormed = true) : ∃ i, decodeOp w = .ok i := by
  cases h : decodeOp w with
  | ok i => exact ⟨i, rfl⟩
  | error e =>
    rcases decodeOp_error h with ⟨-, hres⟩ | ⟨-, hres⟩ | ⟨-, hres⟩ <;>
      simp [OpWord.wellFormed, hres] at hw

theorem encodingShape : ∀ i : Instr, Laws.EncodingShape.Statement i
  | .sample => Laws.EncodingShape.sample
  | .phase c => Laws.EncodingShape.phase c
  | .qdec c => Laws.EncodingShape.qdec c
  | .tstep c => Laws.EncodingShape.tstep c
  | .debounce => Laws.EncodingShape.debounce
  | .press => Laws.EncodingShape.press
  | .ttoggle c => Laws.EncodingShape.ttoggle c
  | .longpress => Laws.EncodingShape.longpress
  | .tclear => Laws.EncodingShape.tclear
  | .fade c => Laws.EncodingShape.fade c
  | .decomp => Laws.EncodingShape.decomp
  | .gamma k => Laws.EncodingShape.gamma k
  | .dither k => Laws.EncodingShape.dither k
  | .duty k => Laws.EncodingShape.duty k
  | .tickinc => Laws.EncodingShape.tickinc
  | .tick w => Laws.EncodingShape.tick w
  | .reset => Laws.EncodingShape.reset

theorem encode_wellFormed (i : Instr) : (encode i).wellFormed = true := (encodingShape i).1

theorem wellFormed_of_decodeRequest_ok {q : Request} {i : Instr} (h : decodeRequest q = .ok i) :
    q.wellFormed = true := by
  obtain ⟨rst, bytes⟩ := q
  cases rst with
  | true => rfl
  | false =>
    have hq : encode i = { rst := false, word := bytes } := encode_of_decodeWord h
    exact hq ▸ encode_wellFormed i

theorem decodeWord_ok_of_wellFormed {bytes : List Byte}
    (h : Request.wellFormed { rst := false, word := bytes } = true) :
    ∃ i, decodeWord bytes = .ok i := by
  match bytes with
  | [b] =>
    obtain ⟨hb, hw⟩ : b.toNat < 64 ∧ OpWord.wellFormed (b.setWidth 6) = true := by
      simpa [Request.wellFormed] using h
    simpa [decodeWord, hb] using decodeOp_ok_of_wellFormed hw
  | [lo, hi] =>
    have hhi : hi.toNat < 2 := by simpa [Request.wellFormed] using h
    exact ⟨.tick (hi.setWidth 1 ++ lo), by simp [decodeWord, hhi]⟩
  | [] | _ :: _ :: _ :: _ => simp [Request.wellFormed] at h

/-- Settles O3: what decodes is the encoding of an instruction, and those are well formed; and an OP word
that is refused has a reserved pattern. -/
theorem decoderRefusesExactlyIllFormed : Obligations.DecoderRefusesExactlyIllFormed := by
  rintro ⟨rst, bytes⟩
  refine ⟨fun ⟨_, hi⟩ => wellFormed_of_decodeRequest_ok hi, fun hq => ?_⟩
  cases rst with
  | true => exact ⟨.reset, rfl⟩
  | false => exact decodeWord_ok_of_wellFormed hq

theorem step_of_decode_error {s : State} {q : Request} {rest : List Request} {e : DecodeError}
    (hs : s.stimulus = q :: rest) (hword : q.word ≠ []) (hq : decodeRequest q = .error e) :
    step s = .refused (.undecodable e) := by
  have hpending : pendingRequest s = some q := by simp [pendingRequest, hs, hword]
  simp only [step, hpending, hq]

/-- Settles O5: an ill-formed OP word does not decode, and the reason why is that of its pattern. -/
theorem reservedOpWordsStopTheStep : Obligations.ReservedOpWordsStopTheStep := by
  intro w s rest hw hs
  cases h : decodeOp w with
  | ok i =>
    have hwf := wellFormed_of_decodeRequest_ok ((decodeRequest_opWordRequest w).trans h)
    simp [wellFormed_opWordRequest, hw] at hwf
  | error e =>
    have hstep : step s = .refused (.undecodable e) :=
      step_of_decode_error hs (List.cons_ne_nil _ _) ((decodeRequest_opWordRequest w).trans h)
    rw [hstep]
    rcases decodeOp_error h with ⟨rfl, hres⟩ | ⟨rfl, hres⟩ | ⟨rfl, hres⟩
    · exact .inl ⟨hres, rfl⟩
    · exact .inr (.inl ⟨hres, rfl⟩)
    · exact .inr (.inr ⟨hres, rfl⟩)

/-! ## FADE (43_color_fader.md R146) -/

theorem fadeOp_of_fade_tick (c : Colour) {s : State} (h : s.sig.t.toNat % 32 = 0) :
    fadeOp c s = setCurrent c (fadedLevel (s.target.get c) (s.current.get c)) s := by
  simp [fadeOp, fadeCondition_eq, h]

theorem fadeOp_of_other_tick (c : Colour) {s : State} (h : s.sig.t.toNat % 32 ≠ 0) :
    fadeOp c s = s := by
  simp [fadeOp, fadeCondition_eq, h]

/-- Settles O25, in the two kinds of tick. -/
theorem fadeMovesOneUnitTowardTheTarget : Obligations.FadeMovesOneUnitTowardTheTarget :=
  fun c _ =>
    ⟨fun h => congrArg Host.Outcome.next (fadeOp_of_other_tick c h),
      fun h => ⟨_, congrArg Host.Outcome.next (fadeOp_of_fade_tick c h), fadedLevel_toNat _ _⟩⟩

/-! ## DITHER (45_gamma_dither_pwm.md R168) -/

theorem readDither_eq (T : Config.Tables) {pwm : Byte} {j : Fin 4} (hj : j.val = pwm.toNat % 4) :
    readDither T pwm = T.dither j := by
  rw [readDither, Fin.ext ((ditherIndex_val pwm).trans hj.symm)]

/-- Settles O30: the bit that the operation writes is the one of the statement. -/
theorem ditherSelectsThePatternBit : Obligations.DitherSelectsThePatternBit := by
  intro k s j hj
  refine ⟨_, rfl, ?_⟩
  rw [patternBit_toNat, readDither_eq _ hj, ditherBitNumber_eq]

/-! ## SAMPLE (46_tick_dispatcher.md R181; 30_encoding.md R70) -/

/-- The levels that a word of levels stands for are those levels (30_encoding.md R70). -/
@[simp] theorem portsOfWord_wordOfPorts (p : Ports) : portsOfWord (wordOfPorts p) = p := by
  obtain ⟨⟨ar, ag, ab⟩, ⟨br, bg, bb⟩, ⟨pr, pg, pb⟩⟩ := p
  revert ar ag ab br bg bb pr pg pb
  decide

section ports
variable (w : InWord) (c : Colour)

theorem portsOfWord_encA_get : (portsOfWord w).encA.get c = w.getLsbD (2 * c.index) := by
  cases c <;> rfl

theorem portsOfWord_encB_get : (portsOfWord w).encB.get c = w.getLsbD (2 * c.index + 1) := by
  cases c <;> rfl

theorem portsOfWord_btn_get : (portsOfWord w).btn.get c = w.getLsbD (6 + c.index) := by
  cases c <;> rfl

end ports

/-- Settles O35: the word that the levels form stands for those levels. -/
theorem sampleLatchesTheInputs : Obligations.SampleLatchesTheInputs := by
  intro s
  refine ⟨wordOfPorts s.ports, rfl, fun c => ?_⟩
  rw [← portsOfWord_encA_get, ← portsOfWord_encB_get, ← portsOfWord_btn_get,
    portsOfWord_wordOfPorts]
  exact ⟨rfl, rfl, rfl⟩

end Sys2Proof.Machine
end

section
/-! PROOFS. The quadrature decoder (40_quadrature_decoder.md): PHASE and QDEC alone, which word stands for
each, and what the encoders do to the targets over whole ticks. -/

namespace Sys2Proof.Machine

open Sys2Proof

/-! ## Words on a colour channel (30_encoding.md R81) -/

/-- The channel field of a colour holds its number. -/
theorem colourBits_eq_ofNat_index (c : Colour) : colourBits c = BitVec.ofNat 2 c.index := by
  cases c <;> rfl

/-! ## PHASE (40_quadrature_decoder.md R101) -/

theorem phaseCode_getLsbD_one (a b : Bool) : (phaseCode a b).getLsbD 1 = a := by
  revert a b; decide

theorem phaseCode_getLsbD_zero (a b : Bool) : (phaseCode a b).getLsbD 0 = (a ^^ b) := by
  revert a b; decide

theorem decodeOp_phase (c : Colour) :
    decodeOp (0b0001#4 ++ BitVec.ofNat 2 c.index) = .ok (.phase c) := by
  simp [← colourBits_eq_ofNat_index, decodeOp]

/-- Settles O9: the code that the operation writes is the phase code of the two pins of its encoder. -/
theorem phaseFormsThePhaseCode : Obligations.PhaseFormsThePhaseCode :=
  fun c s => ⟨decodeOp_phase c, phaseCode (inA s.sig.inWord c) (inB s.sig.inWord c), rfl,
    phaseCode_getLsbD_one _ _, phaseCode_getLsbD_zero _ _⟩

/-! ## QDEC (40_quadrature_decoder.md R102, R103, R105) -/

theorem decodeOp_qdec (c : Colour) :
    decodeOp (0b0010#4 ++ BitVec.ofNat 2 c.index) = .ok (.qdec c) := by
  simp [← colourBits_eq_ofNat_index, decodeOp]

/-- The difference of two codes is their difference as position numbers, modulo 4. -/
theorem phaseDiff_cast_emod (last cur : PhaseCode) :
    ((phaseDiff last cur).toNat : Int) = ((last.toNat : Int) - cur.toNat) % 4 := by
  have hcur := cur.isLt
  rw [phaseDiff_toNat]
  omega

/-- Settles O10: the operation writes the difference of the codes and the move of that difference. -/
theorem qdecClassifiesTheMove : Obligations.QdecClassifiesTheMove :=
  fun c _ => ⟨decodeOp_qdec c, _, _, rfl, phaseDiff_cast_emod _ _, moveOfDiff_eq _⟩

/-- A code `n` positions below the stored one has the difference `n`. -/
theorem phaseDiff_sub_right (last n : PhaseCode) : phaseDiff last (last - n) = n :=
  sub_sub_cancel last n

/-- A code `n` positions above the stored one has the difference `-n`. -/
theorem phaseDiff_add_right (last n : PhaseCode) : phaseDiff last (last + n) = -n :=
  sub_add_cancel_left last n

theorem qdecOp_diff_get (c : Colour) (s : State) :
    (qdecOp c s).sig.diff.get c = phaseDiff (s.lastPhase.get c) (s.sig.curPhase.get c) := by
  simp [qdecOp_sig]

theorem qdecOp_move_get (c : Colour) (s : State) :
    (qdecOp c s).sig.move.get c =
      moveOfDiff (phaseDiff (s.lastPhase.get c) (s.sig.curPhase.get c)) := by
  simp [qdecOp_sig]

/-- Settles O11: the three skips have the differences 2, 3 and -3, that is 1, whose moves are NONE, DEC
and INC. -/
theorem skippedTransitionsAreMiscounted : Obligations.SkippedTransitionsAreMiscounted := by
  intro c s
  refine ⟨qdecOp c s, rfl, by simp [qdecOp_lastPhase], fun h => ?_, fun h => ?_, fun h => ?_⟩
  · rw [qdecOp_move_get, qdecOp_diff_get, h, phaseDiff_sub_right]
    exact ⟨rfl, rfl⟩
  · rw [qdecOp_move_get, h, phaseDiff_sub_right]
    rfl
  · rw [qdecOp_move_get, h, phaseDiff_add_right]
    rfl

/-! ## A tick from a state in range completes (46_tick_dispatcher.md R183) -/

section completes
variable (w : InWord) {s : State}

theorem pseudoStepped_eq (s : State) (c : Colour) :
    pseudoStepped w s c =
      (steppedTarget (moveOfDiff (phaseDiff (s.lastPhase.get c) (phaseCode (inA w c) (inB w c))))
        (s.target.get c)).toNat := by
  rw [steppedTarget_toNat, moveOfDiff_eq, phaseDiff_toNat, phaseCode_toNat]
  unfold pseudoStepped pseudoDiff
  dsimp only
  split_ifs <;> rfl

theorem pseudoTarget_le (h : s.LevelsInRange) (c : Colour) : pseudoTarget w s c ≤ 40 := by
  have hstepped : pseudoStepped w s c ≤ 40 := by
    rw [pseudoStepped_eq]; exact steppedTarget_le _ (h c).1
  unfold pseudoTarget pseudoToggled
  split_ifs <;> omega

/-- The fader does not leave the range that the Current Level and the new target share. -/
theorem pseudoCurrent_le (h : s.LevelsInRange) (c : Colour) : pseudoCurrent w s c ≤ 40 := by
  have htarget : ((levelStages (presentWord w s)).target.get c).toNat ≤ 40 := by
    rw [levelStages_target]; exact pseudoTarget_le w h c
  have hfaded := fadedLevel_le htarget (h c).2
  have hsign := fadedLevel_toNat ((levelStages (presentWord w s)).target.get c) (s.current.get c)
  rw [levelStages_target] at hsign
  unfold pseudoCurrent
  dsimp only
  split
  · omega
  · exact (h c).2

theorem pseudoLevel_le (h : s.LevelsInRange) (k : OutChannel) : pseudoLevel w s k ≤ 40 := by
  have hcurrent := pseudoCurrent_le w h
  cases k with
  | red => exact (Nat.sub_le _ _).trans (hcurrent .red)
  | green => exact (Nat.sub_le _ _).trans (hcurrent .green)
  | blue => exact (Nat.sub_le _ _).trans (hcurrent .blue)
  | white => exact (Nat.min_le_left _ _).trans (hcurrent .red)

theorem exec_tick_eq_pseudoNext (h : s.LevelsInRange) :
    exec (.tick w) s = .next (pseudoNext Config.tables w s) :=
  tickOp_next Config.tables w s (pseudoLevel_le w h)

end completes

/-! ## The next state of a tick, channel by channel -/

section fields
variable (T : Config.Tables) (w : InWord) (s : State) (c : Colour)

theorem pseudoNext_lastPhase_get :
    (pseudoNext T w s).lastPhase.get c = phaseCode (inA w c) (inB w c) := by
  rw [← levelStages_eq_pseudoNext]
  exact levelStages_lastPhase w s c

theorem pseudoNext_target_get_toNat :
    ((pseudoNext T w s).target.get c).toNat = pseudoTarget w s c := by
  rw [← levelStages_eq_pseudoNext]
  exact levelStages_target w s c

theorem pseudoNext_current_get_toNat :
    ((pseudoNext T w s).current.get c).toNat = pseudoCurrent w s c := by
  rw [← levelStages_eq_pseudoNext]
  exact levelStages_current w s c

end fields

theorem pseudoNext_levelsInRange (T : Config.Tables) (w : InWord) {s : State}
    (h : s.LevelsInRange) : (pseudoNext T w s).LevelsInRange := by
  intro c
  rw [pseudoNext_target_get_toNat, pseudoNext_current_get_toNat]
  exact ⟨pseudoTarget_le w h c, pseudoCurrent_le w h c⟩

/-! ## What a channel sees of the input word (40_quadrature_decoder.md R100) -/

/-- The three button levels are all of the word that the button stage reads (30_encoding.md R75). -/
theorem rawLanes_congr {w v : InWord} (h : ∀ c, inP w c = inP v c) : rawLanes w = rawLanes v := by
  refine BitVec.eq_of_getLsbD_eq fun i hi => ?_
  have hlane : ∀ (u : InWord), (rawLanes u).getLsbD i = u.getLsbD (6 + i) := fun u => by
    simp [rawLanes, hi]
  rw [hlane, hlane]
  match i, hi with
  | 0, _ => exact h .red
  | 1, _ => exact h .green
  | 2, _ => exact h .blue

section sees
variable {w v : InWord} (s : State)

theorem pseudoAccepted_congr (h : rawLanes w = rawLanes v) :
    pseudoAccepted w s = pseudoAccepted v s := by
  have hchange : pseudoRawChange w s = pseudoRawChange v s :=
    congrArg (fun raw => s.ts ^^^ ~~~ raw) h
  rw [pseudoAccepted, pseudoCt1, pseudoCt0, hchange]
  rfl

theorem pseudoStepped_congr {c : Colour} (ha : inA w c = inA v c) (hb : inB w c = inB v c) :
    pseudoStepped w s c = pseudoStepped v s c := by
  rw [pseudoStepped_eq, pseudoStepped_eq, ha, hb]

/-- A new target depends on the word through its own encoder and the buttons. -/
theorem pseudoTarget_congr {c : Colour} (ha : inA w c = inA v c) (hb : inB w c = inB v c)
    (hraw : rawLanes w = rawLanes v) : pseudoTarget w s c = pseudoTarget v s c := by
  unfold pseudoTarget pseudoToggled pseudoRpt pseudoTs
  rw [pseudoAccepted_congr s hraw, pseudoStepped_congr s ha hb]

end sees

/-- Settles O42: both ticks complete with the pseudocode's state, in which the code of a channel depends on
its own pins and its target on those and the buttons. -/
theorem encodersShareNothing : Obligations.EncodersShareNothing := by
  intro c w v s hlevels ha hb hp
  refine ⟨_, _, exec_tick_eq_pseudoNext w hlevels, exec_tick_eq_pseudoNext v hlevels, ?_, ?_⟩
  · rw [pseudoNext_lastPhase_get, pseudoNext_lastPhase_get, ha, hb]
  · apply BitVec.eq_of_toNat_eq
    rw [pseudoNext_target_get_toNat, pseudoNext_target_get_toNat]
    exact pseudoTarget_congr s ha hb (rawLanes_congr hp)

/-! ## Turning one encoder (40_quadrature_decoder.md R104) -/

/-- A tick with no button held and none pressed leaves the targets to the encoders. -/
theorem pseudoNext_of_released (T : Config.Tables) {w : InWord} {s : State} (hts : s.ts = 0#3)
    (hw : rawLanes w = 7#3) :
    (pseudoNext T w s).ts = 0#3 ∧
      ∀ d, (pseudoNext T w s).target.get d =
        steppedTarget (moveOfDiff (phaseDiff (s.lastPhase.get d) (phaseCode (inA w d) (inB w d))))
          (s.target.get d) := by
  have hraw : pseudoRawChange w s = 0#3 := by
    rw [pseudoRawChange, hts, show w.extractLsb' 6 3 = 7#3 from hw]
    decide
  have hts' : pseudoTs w s = 0#3 := (pseudoTs_of_agree w s hraw).trans hts
  refine ⟨hts', fun d => BitVec.eq_of_toNat_eq ?_⟩
  rw [pseudoNext_target_get_toNat, ← pseudoStepped_eq]
  simp [pseudoTarget, pseudoToggled, hts']

/-- The idle word with the pins of encoder `c` at the levels `a` and `b`. -/
def encoderWord (c : Colour) (a b : Bool) : InWord :=
  (idleWord ^^^ ((BitVec.ofBool !a).setWidth 9 <<< (2 * c.index))) ^^^
    ((BitVec.ofBool !b).setWidth 9 <<< (2 * c.index + 1))

section encoderWord
variable (c : Colour) (a b : Bool)

theorem rawLanes_encoderWord : rawLanes (encoderWord c a b) = 7#3 := by
  cases c <;> revert a b <;> decide

/-- Every other encoder shows the code of the idle pair. -/
theorem phaseCode_encoderWord (d : Colour) :
    phaseCode (inA (encoderWord c a b) d) (inB (encoderWord c a b) d) =
      if d = c then phaseCode a b else 2#2 := by
  cases c <;> cases d <;> revert a b <;> decide

end encoderWord

/-- The target of an encoder last seen at the code `last`, after it has shown `codes` one in a tick. -/
def targetAfterCodes (codes : List PhaseCode) (last : PhaseCode) (v : Byte) : Byte :=
  match codes with
  | [] => v
  | cur :: rest => targetAfterCodes rest cur (steppedTarget (moveOfDiff (phaseDiff last cur)) v)

/-- Ticks in which only encoder `c` turns move its target by the codes it shows, and leave that of every
encoder at the idle pair. -/
theorem runTicks_encoderWords (c : Colour) (pins : List (Bool × Bool)) {s : State}
    (hts : s.ts = 0#3) (hlevels : s.LevelsInRange) :
    ∃ t, runTicks (pins.map fun p => encoderWord c p.1 p.2) s = .next t ∧
      t.target.get c = targetAfterCodes (pins.map fun p => phaseCode p.1 p.2) (s.lastPhase.get c)
        (s.target.get c) ∧
      ∀ d, d ≠ c → s.lastPhase.get d = 2#2 → t.target.get d = s.target.get d := by
  induction pins generalizing s with
  | nil => exact ⟨s, rfl, rfl, fun _ _ _ => rfl⟩
  | cons p pins ih =>
    obtain ⟨hts', htarget⟩ :=
      pseudoNext_of_released Config.tables hts (rawLanes_encoderWord c p.1 p.2)
    obtain ⟨t, hrun, hown, hother⟩ := ih hts' (pseudoNext_levelsInRange Config.tables _ hlevels)
    have hphase := pseudoNext_lastPhase_get Config.tables (encoderWord c p.1 p.2) s
    simp only [phaseCode_encoderWord] at hphase htarget
    refine ⟨t, ?_, ?_, fun d hd hidle => ?_⟩
    · rw [List.map_cons, runTicks_cons, exec_tick_eq_pseudoNext _ hlevels, andThen_next, hrun]
    · rw [hown, hphase, htarget, if_pos rfl]
      rfl
    · rw [hother d hd (by rw [hphase, if_neg hd]), htarget, hidle, if_neg hd]
      rfl

/-- Four codes down from the idle pair, each one INC. -/
theorem targetAfterCodes_detent_up (v : Byte) :
    (targetAfterCodes [1#2, 0#2, 3#2, 2#2] 2#2 v).toNat = min (v.toNat + 4) 40 := by
  have hmoves : targetAfterCodes [1#2, 0#2, 3#2, 2#2] 2#2 v =
      steppedTarget .inc (steppedTarget .inc (steppedTarget .inc (steppedTarget .inc v))) := rfl
  simp only [hmoves, steppedTarget_toNat]
  omega

/-- Four codes up from the idle pair, each one DEC. -/
theorem targetAfterCodes_detent_down (v : Byte) :
    (targetAfterCodes [3#2, 0#2, 1#2, 2#2] 2#2 v).toNat = v.toNat - 4 := by
  have hmoves : targetAfterCodes [3#2, 0#2, 1#2, 2#2] 2#2 v =
      steppedTarget .dec (steppedTarget .dec (steppedTarget .dec (steppedTarget .dec v))) := rfl
  simp only [hmoves, steppedTarget_toNat]
  omega

/-- Settles O12: the pin pairs of a detent are four codes, each one position from the one before. -/
theorem oneDetentMovesTheTargetByFour : Obligations.OneDetentMovesTheTargetByFour := by
  intro c s hrest hlevels word
  obtain ⟨hlast, hts, -⟩ := hrest
  have hidle : ∀ d, s.lastPhase.get d = 2#2 := fun d => by rw [hlast, PerColour.get_all]
  obtain ⟨t, hup, hupOwn, hupOther⟩ := runTicks_encoderWords c
    [(false, true), (false, false), (true, false), (true, true)] hts hlevels
  obtain ⟨u, hdown, hdownOwn, hdownOther⟩ := runTicks_encoderWords c
    [(true, false), (false, false), (false, true), (true, true)] hts hlevels
  rw [hidle] at hupOwn hdownOwn
  refine ⟨⟨t, hup, ?_, fun d hd => hupOther d hd (hidle d)⟩,
    ⟨u, hdown, ?_, fun d hd => hdownOther d hd (hidle d)⟩⟩
  · rw [hupOwn]; exact targetAfterCodes_detent_up _
  · rw [hdownOwn]; exact targetAfterCodes_detent_down _

end Sys2Proof.Machine
end

section
/-! PROOFS. The bounded counter (41_bounded_counter.md): TSTEP, TTOGGLE and TCLEAR alone, the targets that
a whole tick leaves, and the long press that clears them (42_button_debounce.md R135 to R140). -/

namespace Sys2Proof.Machine

open Sys2Proof

/-! ## The operations alone (41_bounded_counter.md R111 to R113) -/

theorem decodeOp_tstep (c : Colour) :
    decodeOp (0b0011#4 ++ BitVec.ofNat 2 c.index) = .ok (.tstep c) := by
  simp [← colourBits_eq_ofNat_index, decodeOp]

theorem decodeOp_ttoggle (c : Colour) :
    decodeOp (0b0110#4 ++ BitVec.ofNat 2 c.index) = .ok (.ttoggle c) := by
  simp [← colourBits_eq_ofNat_index, decodeOp]

/-- Settles O13: the target that the operation writes is the stepped one, whose number is the clamped one
for each move. -/
theorem tstepClampsTheTarget : Obligations.TstepClampsTheTarget := by
  intro c s
  refine ⟨decodeOp_tstep c, steppedTarget (s.sig.move.get c) (s.target.get c), rfl, ?_⟩
  rw [steppedTarget_toNat]
  cases s.sig.move.get c with
  | none => rfl
  | inc => push_cast; rfl
  | dec => dsimp only; rw [max_def]; split <;> omega

/-- Settles O14: with a press edge the operation writes the toggled target, and without one nothing. -/
theorem ttoggleTogglesOnAPressEdge : Obligations.TtoggleTogglesOnAPressEdge :=
  fun c _ => ⟨decodeOp_ttoggle c, rfl⟩

/-- Settles O15: with `fire` the operation writes 0 in every channel, and without it nothing. -/
theorem tclearClearsAllTargets : Obligations.TclearClearsAllTargets :=
  fun _ => ⟨rfl, rfl⟩

/-! ## Lanes (30_encoding.md R75) -/

section lane
variable (u v : Lanes) (c : Colour)

theorem lane_xor : lane (u ^^^ v) c = (lane u c ^^ lane v c) := BitVec.getLsbD_xor

theorem lane_and : lane (u &&& v) c = (lane u c && lane v c) := BitVec.getLsbD_and

theorem lane_not : lane (~~~ v) c = !lane v c := by
  cases c <;> simp [lane, Colour.index]

theorem lane_zero : lane 0#3 c = false := BitVec.getLsbD_zero

/-- A vector with a lane set is not 0. -/
theorem ne_zero_of_lane {v : Lanes} {c : Colour} (h : lane v c = true) : v ≠ 0#3 := by
  rintro rfl
  simp [lane_zero] at h

theorem lane_rawLanes (w : InWord) : lane (rawLanes w) c = inP w c := by
  cases c <;> simp [lane, rawLanes, inP, Colour.index]

end lane

/-! ## A button in a tick (42_button_debounce.md R121 to R126, R132) -/

section button
variable (w : InWord) (s : State) (c : Colour)

theorem lane_pseudoRawChange : lane (pseudoRawChange w s) c = (lane s.ts c ^^ !inP w c) := by
  rw [pseudoRawChange, lane_xor, lane_not, ← lane_rawLanes]
  rfl

theorem lane_pseudoCt0 :
    lane (pseudoCt0 w s) c = !(lane s.ct0 c && lane (pseudoRawChange w s) c) := by
  rw [pseudoCt0, lane_not, lane_and]

theorem lane_pseudoCt1 : lane (pseudoCt1 w s) c = (lane (pseudoCt0 w s) c ^^ lane s.ct1 c) :=
  lane_xor _ _ c

theorem lane_pseudoAccepted :
    lane (pseudoAccepted w s) c =
      (lane (pseudoRawChange w s) c && lane (pseudoCt0 w s) c && lane (pseudoCt1 w s) c) := by
  rw [pseudoAccepted, lane_and, lane_and]

theorem lane_pseudoTs : lane (pseudoTs w s) c = (lane s.ts c ^^ lane (pseudoAccepted w s) c) :=
  lane_xor _ _ c

/-- A button whose pin agrees with its debounced state keeps that state. -/
theorem lane_pseudoTs_of_agree {w : InWord} {s : State} {c : Colour}
    (h : (!inP w c) = lane s.ts c) : lane (pseudoTs w s) c = lane s.ts c := by
  rw [lane_pseudoTs, lane_pseudoAccepted, lane_pseudoRawChange, h]
  simp

/-- The press edge of a button is its debounced state going from 0 to 1. -/
theorem lane_pseudoPressed :
    lane (pseudoTs w s &&& pseudoAccepted w s) c = (!lane s.ts c && lane (pseudoTs w s) c) := by
  rw [lane_and, lane_pseudoTs]
  cases lane s.ts c <;> cases lane (pseudoAccepted w s) c <;> rfl

/-- A press edge acts on the target that the encoder left. -/
theorem pseudoToggled_of_press {w : InWord} {s : State} {c : Colour} (hold : lane s.ts c = false)
    (hnew : lane (pseudoTs w s) c = true) :
    pseudoToggled w s c = if pseudoStepped w s c = 0 then 40 else 0 := by
  have hpress : lane (pseudoTs w s &&& pseudoAccepted w s) c = true := by
    rw [lane_pseudoPressed, hold, hnew]; rfl
  exact if_pos hpress

end button

/-! ## The countdown and the targets that a tick leaves (42_button_debounce.md R136, R137) -/

section countdown
variable (T : Config.Tables) (w : InWord) (s : State)

theorem pseudoNext_ts : (pseudoNext T w s).ts = pseudoTs w s := rfl

theorem pseudoNext_rpt_toNat : (pseudoNext T w s).rpt.toNat = pseudoRpt w s := by
  rw [← levelStages_eq_pseudoNext]
  dsimp only
  exact levelStages_rpt w s

theorem pseudoNext_rpt_eq_zero_iff : (pseudoNext T w s).rpt = 0#16 ↔ pseudoRpt w s = 0 := by
  rw [← pseudoNext_rpt_toNat T, BitVec.toNat_eq]
  rfl

/-- A tick that ends held takes a countdown that is not 0 down by one. -/
theorem pseudoNext_rpt_of_held {w : InWord} {s : State} (hheld : (pseudoNext T w s).ts ≠ 0#3)
    (hpos : 0 < s.rpt.toNat) : (pseudoNext T w s).rpt.toNat = s.rpt.toNat - 1 := by
  have hlt := s.rpt.isLt
  rw [pseudoNext_ts] at hheld
  rw [pseudoNext_rpt_toNat, pseudoRpt, if_neg hheld]
  omega

/-- The long press is the last writer of a target, and writes it when the tick ends held with a
countdown of 0. -/
theorem pseudoNext_target_eq_ite (c : Colour) :
    ((pseudoNext T w s).target.get c).toNat =
      if (pseudoNext T w s).ts ≠ 0#3 ∧ (pseudoNext T w s).rpt = 0#16 then 0
      else pseudoToggled w s c := by
  rw [pseudoNext_target_get_toNat]
  exact if_congr (and_congr_right' (pseudoNext_rpt_eq_zero_iff T w s).symm) rfl rfl

theorem pseudoNext_target_of_fire {w : InWord} {s : State} (hheld : (pseudoNext T w s).ts ≠ 0#3)
    (hzero : (pseudoNext T w s).rpt = 0#16) : (pseudoNext T w s).target = .all 0#8 := by
  refine PerColour.ext_get fun c => BitVec.eq_of_toNat_eq ?_
  rw [pseudoNext_target_eq_ite, if_pos ⟨hheld, hzero⟩, PerColour.get_all]
  rfl

theorem pseudoNext_target_of_rpt_ne_zero {w : InWord} {s : State}
    (hrpt : (pseudoNext T w s).rpt ≠ 0#16) (c : Colour) :
    ((pseudoNext T w s).target.get c).toNat = pseudoToggled w s c := by
  rw [pseudoNext_target_eq_ite, if_neg fun hfire => hrpt hfire.2]

end countdown

/-- Settles O24: the tick completes with the state of the pseudocode, whose targets the long press writes
last. -/
theorem longPressClearsOnlyWhenItFires : Obligations.LongPressClearsOnlyWhenItFires :=
  fun w s hlevels => ⟨_, exec_tick_eq_pseudoNext w hlevels, pseudoNext_target_eq_ite _ w s⟩

/-- Settles O43: no long press writes after the press edge, which acts on the stepped target. -/
theorem pressActsOnTheSteppedTarget : Obligations.PressActsOnTheSteppedTarget := by
  intro c w s t htick hold hnew hrpt
  obtain rfl := exec_tick_eq_next htick
  rw [pseudoNext_target_of_rpt_ne_zero _ hrpt, pseudoToggled_of_press hold hnew]

/-! ## The first tick (42_button_debounce.md R141; 70_reset_and_hazards.md R240) -/

/-- With both counters of a lane at 0 a press is accepted at once. -/
theorem lane_pseudoTs_of_counters_zero {w : InWord} {s : State} {c : Colour}
    (hts : lane s.ts c = false) (hct0 : lane s.ct0 c = false) (hct1 : lane s.ct1 c = false)
    (hlow : inP w c = false) : lane (pseudoTs w s) c = true := by
  rw [lane_pseudoTs, lane_pseudoAccepted, lane_pseudoCt1, lane_pseudoCt0, lane_pseudoRawChange, hts,
    hct0, hct1, hlow]
  rfl

/-- The pair 10 has the code 3, one position below the code 0 of the reset state: an increment. -/
theorem pseudoStepped_reset (w : InWord) (c : Colour) :
    pseudoStepped w State.reset c = if inA w c = true ∧ inB w c = false then 1 else 0 := by
  have hphase : State.reset.lastPhase.get c = 0#2 := PerColour.get_all _ c
  have htarget : State.reset.target.get c = 0#8 := PerColour.get_all _ c
  rw [pseudoStepped_eq, hphase, htarget]
  cases inA w c <;> cases inB w c <;> rfl

/-- Settles O47: the press is accepted at once and the countdown is then at 749, so the press edge is the
last writer of the target. -/
theorem firstTickAcceptsAPressAtOnce : Obligations.FirstTickAcceptsAPressAtOnce := by
  intro c w hlow
  have htick := exec_tick_eq_pseudoNext w rangesHoldAtReset.1
  have hnew : lane (pseudoNext Config.tables w State.reset).ts c = true :=
    lane_pseudoTs_of_counters_zero (lane_zero c) (lane_zero c) (lane_zero c) hlow
  have hrpt := pseudoNext_rpt_of_held _ (ne_zero_of_lane hnew) (by decide)
  have hne : (pseudoNext Config.tables w State.reset).rpt ≠ 0#16 := by
    intro hzero
    rw [hzero] at hrpt
    exact absurd hrpt (by decide)
  refine ⟨_, htick, hnew, BitVec.eq_of_toNat_eq ?_⟩
  rw [pressActsOnTheSteppedTarget c w _ _ htick (lane_zero c) hnew hne, pseudoStepped_reset]
  split <;> rfl

/-! ## The long press over many ticks (42_button_debounce.md R139, R140) -/

/-- The state before tick `n` when the machine ticks on `word 0`, `word 1`, …, each tick completing. -/
def tickRun (word : Nat → InWord) (s : State) : Nat → State
  | 0 => s
  | n + 1 => pseudoNext Config.tables (word n) (tickRun word s n)

section tickRun
variable {word : Nat → InWord} {s : State}

theorem tickRun_levelsInRange (hlevels : s.LevelsInRange) (n : Nat) :
    (tickRun word s n).LevelsInRange := by
  induction n with
  | zero => exact hlevels
  | succ n ih => exact pseudoNext_levelsInRange _ _ ih

theorem tickRun_ticksThrough (hlevels : s.LevelsInRange) : TicksThrough word (tickRun word s) :=
  fun n => exec_tick_eq_pseudoNext (word n) (tickRun_levelsInRange hlevels n)

/-- While every tick ends held, each takes the countdown down by one, until it is 0. -/
theorem tickRun_rpt_of_held {n : Nat} (hn : n ≤ s.rpt.toNat)
    (hheld : ∀ m, m < n → (tickRun word s (m + 1)).ts ≠ 0#3) :
    (tickRun word s n).rpt.toNat = s.rpt.toNat - n := by
  induction n with
  | zero => rfl
  | succ n ih =>
    have hrpt := ih (by omega) fun m hm => hheld m (by omega)
    have hnext := pseudoNext_rpt_of_held Config.tables (hheld n (by omega)) (by omega)
    rw [tickRun, hnext, hrpt]
    omega

end tickRun

/-- Settles O23: the countdown of 750 is 0 after the 750th held tick and after none before it. -/
theorem longPressFiresInThe750thHeldTick : Obligations.LongPressFiresInThe750thHeldTick := by
  intro s word hlevels _ hstart
  refine ⟨tickRun word s, rfl, tickRun_ticksThrough hlevels, fun n hn hheld => ?_⟩
  have h750 : s.rpt.toNat = 750 := congrArg BitVec.toNat hstart
  have hrpt : (tickRun word s (n + 1)).rpt.toNat = 749 - n := by
    rw [tickRun_rpt_of_held (by omega) fun m hm => hheld m (by omega)]
    omega
  have hfire :
      (tickRun word s (n + 1)).ts ≠ 0#3 ∧ (tickRun word s (n + 1)).rpt = 0#16 ↔ n = 749 := by
    rw [and_iff_right (hheld n le_rfl), BitVec.toNat_eq, hrpt, BitVec.toNat_ofNat]
    omega
  refine ⟨hrpt, fun c => ?_⟩
  rw [← if_congr hfire rfl rfl]
  exact pseudoNext_target_eq_ite Config.tables (word n) (tickRun word s n) c

/-- A held button whose pin stays low is held to the end of the run, so each tick takes the countdown
down by one; that a countdown of 0 comes with cleared targets is kept. -/
theorem runTicks_of_held_low {c : Colour} {ws : List InWord} {s : State} (hlevels : s.LevelsInRange)
    (hheld : lane s.ts c = true) (hcleared : s.rpt = 0#16 → s.target = .all 0#8)
    (hlow : ∀ w ∈ ws, inP w c = false) (hlength : ws.length ≤ s.rpt.toNat) :
    ∃ t, runTicks ws s = .next t ∧ t.rpt.toNat = s.rpt.toNat - ws.length ∧
      (t.rpt = 0#16 → t.target = .all 0#8) := by
  induction ws generalizing s with
  | nil => exact ⟨s, rfl, rfl, hcleared⟩
  | cons w ws ih =>
    rw [List.forall_mem_cons] at hlow
    rw [List.length_cons] at hlength
    have hheld' : lane (pseudoNext Config.tables w s).ts c = true :=
      (lane_pseudoTs_of_agree (by rw [hlow.1, hheld]; rfl)).trans hheld
    have hrpt := pseudoNext_rpt_of_held _ (ne_zero_of_lane hheld') (by omega)
    obtain ⟨t, hrun, hcount, hzero⟩ := ih (pseudoNext_levelsInRange _ w hlevels) hheld'
      (pseudoNext_target_of_fire _ (ne_zero_of_lane hheld')) hlow.2 (by omega)
    refine ⟨t, ?_, ?_, hzero⟩
    · rw [runTicks_cons, exec_tick_eq_pseudoNext w hlevels, andThen_next, hrun]
    · rw [hcount, hrpt, List.length_cons]
      omega

/-- Settles O57: from a countdown of 749 no target needs to be clear yet, and after 749 ticks the
countdown is 0. -/
theorem aButtonHeldLowFiresTheLongPress : Obligations.AButtonHeldLowFiresTheLongPress := by
  intro c ws s hlevels hheld hstart hlow hlength
  have h749 : s.rpt.toNat = 749 := congrArg BitVec.toNat hstart
  have hcleared : s.rpt = 0#16 → s.target = .all 0#8 := fun hzero => by
    rw [hzero] at hstart
    exact absurd hstart (by decide)
  obtain ⟨t, hrun, hcount, hzero⟩ :=
    runTicks_of_held_low hlevels hheld hcleared hlow (by omega)
  refine ⟨t, hrun, by omega, fun hall => hzero (BitVec.eq_of_toNat_eq ?_)⟩
  rw [hcount, h749, hall]
  rfl

end Sys2Proof.Machine
end

section
/-! PROOFS. The button debouncer and long-press detector (42_button_debounce.md): DEBOUNCE, PRESS and
LONGPRESS alone, one lane of the debouncer over whole ticks, and the idle ticks from reset
(70_reset_and_hazards.md R232, R233). -/

namespace Sys2Proof.Machine

open Sys2Proof

/-! ## The operations alone (42_button_debounce.md R121, R132, R135) -/

/-- Settles O16: the five formulas of the operation are the five lines, by its definition. -/
theorem debounceUpdatesTheVectors : Obligations.DebounceUpdatesTheVectors :=
  fun _ => rfl

/-- A lane is set in the press edges exactly when flipping the accepted lanes sets it. -/
theorem lane_pressedLanes (ts accepted : Lanes) (c : Colour) :
    lane (pressedLanes (newTs ts accepted) accepted) c =
      (!lane ts c && lane (newTs ts accepted) c) := by
  rw [pressedLanes, lane_and, newTs, lane_xor]
  cases lane ts c <;> cases lane accepted c <;> rfl

/-- Settles O18: PRESS reads the `ts` that DEBOUNCE made by flipping the accepted lanes. -/
theorem pressFindsThePressEdges : Obligations.PressFindsThePressEdges :=
  ⟨rfl, fun _ => rfl, fun s => ⟨pressOp (debounceOp s), rfl, fun c => lane_pressedLanes s.ts _ c⟩⟩

/-- LONGPRESS with nothing held reloads the countdown (42_button_debounce.md R136). -/
theorem longpressOp_of_released {s : State} (h : s.ts = 0#3) :
    longpressOp s =
      { s with rpt := 750#16, sig := { s.sig with held := false, fire := false } } := by
  have hheld : anyHeld s.ts = false := by rw [h]; rfl
  simp only [longpressOp, hheld]
  rfl

/-- LONGPRESS with a button held counts down and fires at 0 (42_button_debounce.md R137). -/
theorem longpressOp_of_held {s : State} (h : s.ts ≠ 0#3) :
    longpressOp s =
      { s with
        rpt := newRpt true s.rpt
        sig := { s.sig with held := true, fire := decide ((newRpt true s.rpt).toNat = 0) } } := by
  have hheld : anyHeld s.ts = true := by rw [anyHeld_eq, decide_eq_true h]
  have hfire : longPressFires true (newRpt true s.rpt) = decide ((newRpt true s.rpt).toNat = 0) := by
    rw [longPressFires, Bool.true_and, Bool.beq_eq_decide_eq]
    exact decide_eq_decide.mpr BitVec.toNat_eq
  simp only [longpressOp, hheld, hfire]

/-- Settles O19, in the two cases of `held`. -/
theorem longpressReloadsOrCountsDown : Obligations.LongpressReloadsOrCountsDown :=
  fun s => ⟨fun h => congrArg Host.Outcome.next (longpressOp_of_released h),
    fun h => ⟨_, congrArg Host.Outcome.next (longpressOp_of_held h),
      (newRpt_toNat true s.rpt).trans (if_pos rfl)⟩⟩

/-! ## One lane in one tick (42_button_debounce.md R127) -/

section lane
variable (T : Config.Tables) {w : InWord} {s : State} {c : Colour}

theorem pseudoNext_ct0 : (pseudoNext T w s).ct0 = pseudoCt0 w s := rfl

theorem pseudoNext_ct1 : (pseudoNext T w s).ct1 = pseudoCt1 w s := rfl

theorem lane_pseudoRawChange_of_agree (h : (!inP w c) = lane s.ts c) :
    lane (pseudoRawChange w s) c = false := by
  rw [lane_pseudoRawChange, h, Bool.xor_self]

theorem lane_pseudoRawChange_of_disagree (h : (!inP w c) ≠ lane s.ts c) :
    lane (pseudoRawChange w s) c = true := by
  rw [lane_pseudoRawChange, Bool.eq_not.mpr h, Bool.xor_not_self]

/-- A tick whose pin agrees keeps the lane's state and brings the lane to rest
(42_button_debounce.md R128). -/
theorem lane_pseudoNext_of_agree (h : (!inP w c) = lane s.ts c) :
    lane (pseudoNext T w s).ts c = lane s.ts c ∧ lane (pseudoNext T w s).ct0 c = true := by
  refine ⟨lane_pseudoTs_of_agree h, ?_⟩
  rw [pseudoNext_ct0, lane_pseudoCt0, lane_pseudoRawChange_of_agree h, Bool.and_false, Bool.not_false]

/-- A first tick of disagreement takes the lane from rest and accepts nothing
(42_button_debounce.md R129). -/
theorem lane_pseudoNext_of_first_disagreement (hrest : lane s.ct0 c = true)
    (h : (!inP w c) ≠ lane s.ts c) :
    lane (pseudoNext T w s).ts c = lane s.ts c ∧ lane (pseudoNext T w s).ct0 c = false ∧
      lane (pseudoNext T w s).ct1 c = lane s.ct1 c := by
  have hct0 : lane (pseudoCt0 w s) c = false := by
    rw [lane_pseudoCt0, hrest, lane_pseudoRawChange_of_disagree h]; rfl
  refine ⟨?_, hct0, ?_⟩
  · rw [pseudoNext_ts, lane_pseudoTs, lane_pseudoAccepted, hct0, Bool.and_false, Bool.false_and,
      Bool.xor_false]
  · rw [pseudoNext_ct1, lane_pseudoCt1, hct0, Bool.false_xor]

/-- A second tick of disagreement brings the lane back to rest and accepts the change when its `ct1` bit
was 0 (42_button_debounce.md R129). -/
theorem lane_pseudoNext_of_second_disagreement (hcount : lane s.ct0 c = false)
    (h : (!inP w c) ≠ lane s.ts c) :
    lane (pseudoNext T w s).ts c = (lane s.ts c ^^ !lane s.ct1 c) ∧
      lane (pseudoNext T w s).ct0 c = true ∧ lane (pseudoNext T w s).ct1 c = !lane s.ct1 c := by
  have hct0 : lane (pseudoCt0 w s) c = true := by rw [lane_pseudoCt0, hcount]; rfl
  have hct1 : lane (pseudoCt1 w s) c = !lane s.ct1 c := by
    rw [lane_pseudoCt1, hct0, Bool.true_xor]
  refine ⟨?_, hct0, hct1⟩
  rw [pseudoNext_ts, lane_pseudoTs, lane_pseudoAccepted, lane_pseudoRawChange_of_disagree h, hct0,
    hct1, Bool.true_and, Bool.true_and]

/-- Two ticks of disagreement from rest end at rest, with the `ct1` bit flipped and the change accepted
when that bit was 0. -/
theorem lane_pseudoNext_of_two_disagreements {v : InWord} (hrest : lane s.ct0 c = true)
    (hw : (!inP w c) ≠ lane s.ts c) (hv : (!inP v c) ≠ lane s.ts c) :
    lane (pseudoNext T v (pseudoNext T w s)).ts c = (lane s.ts c ^^ !lane s.ct1 c) ∧
      lane (pseudoNext T v (pseudoNext T w s)).ct0 c = true ∧
      lane (pseudoNext T v (pseudoNext T w s)).ct1 c = !lane s.ct1 c := by
  obtain ⟨hts, hct0, hct1⟩ := lane_pseudoNext_of_first_disagreement T hrest hw
  have hsecond := lane_pseudoNext_of_second_disagreement T hct0 (w := v) (by rwa [hts])
  rwa [hts, hct1] at hsecond

end lane

/-- Settles O17: the new bits of a lane are the formulas of R121 read lane by lane. -/
theorem debounceLanesAreIndependent : Obligations.DebounceLanesAreIndependent := by
  intro c w s hlevels i a b
  have hct0 : lane (pseudoCt0 w s) c = a := by rw [lane_pseudoCt0, lane_pseudoRawChange]
  have hct1 : lane (pseudoCt1 w s) c = b := by rw [lane_pseudoCt1, hct0]
  refine ⟨_, exec_tick_eq_pseudoNext w hlevels, hct0, hct1, ?_⟩
  rw [pseudoNext_ts, lane_pseudoTs, lane_pseudoAccepted, lane_pseudoRawChange, hct0, hct1]

/-! ## One lane over several ticks (42_button_debounce.md R129 to R131) -/

/-- Settles O20: the first tick of a disagreement accepts nothing, and the agreeing tick behind it brings
the lane back to rest. -/
theorem oneTickGlitchIsRejected : Obligations.OneTickGlitchIsRejected := by
  intro c s w1 w2 hlevels hrest hglitch hback
  obtain ⟨hts1, -, -⟩ := lane_pseudoNext_of_first_disagreement Config.tables hrest hglitch
  obtain ⟨hts2, hct0⟩ := lane_pseudoNext_of_agree Config.tables (hback.trans hts1.symm)
  exact ⟨_, _, exec_tick_eq_pseudoNext w1 hlevels,
    exec_tick_eq_pseudoNext w2 (pseudoNext_levelsInRange _ w1 hlevels),
    hts1, hts2.trans hts1, hct0⟩

/-- Settles O21: the four ticks are two pairs. When `ct1` was 0 the first pair accepts and the pins agree
in the second; when it was 1 the first pair makes it 0 and the second accepts. -/
theorem confirmationTakesTwoOrFourTicks : Obligations.ConfirmationTakesTwoOrFourTicks := by
  intro c s w1 w2 w3 w4 hlevels hrest hwords
  simp only [List.forall_mem_cons] at hwords
  obtain ⟨hw1, hw2, hw3, hw4, -⟩ := hwords
  have hlevels1 := pseudoNext_levelsInRange Config.tables w1 hlevels
  have hlevels2 := pseudoNext_levelsInRange Config.tables w2 hlevels1
  have hlevels3 := pseudoNext_levelsInRange Config.tables w3 hlevels2
  obtain ⟨hts1, -, -⟩ := lane_pseudoNext_of_first_disagreement Config.tables hrest hw1
  obtain ⟨hts2, hct0, hct1⟩ := lane_pseudoNext_of_two_disagreements Config.tables hrest hw1 hw2
  refine ⟨_, _, _, _, exec_tick_eq_pseudoNext w1 hlevels, exec_tick_eq_pseudoNext w2 hlevels1,
    exec_tick_eq_pseudoNext w3 hlevels2, exec_tick_eq_pseudoNext w4 hlevels3, hts1, ?_⟩
  cases hbit : lane s.ct1 c with
  | false =>
    rw [hbit, Bool.not_false, Bool.xor_true] at hts2
    have hts3 := (lane_pseudoNext_of_agree Config.tables
      ((Bool.eq_not.mpr hw3).trans hts2.symm)).1.trans hts2
    have hts4 := (lane_pseudoNext_of_agree Config.tables
      ((Bool.eq_not.mpr hw4).trans hts3.symm)).1.trans hts3
    exact ⟨hts2, hts3, hts4⟩
  | true =>
    rw [hbit, Bool.not_true, Bool.xor_false] at hts2
    rw [← hts2] at hw3 hw4
    obtain ⟨hts3, -, -⟩ := lane_pseudoNext_of_first_disagreement Config.tables hct0 hw3
    obtain ⟨hts4, -, -⟩ := lane_pseudoNext_of_two_disagreements Config.tables hct0 hw3 hw4
    rw [hct1, hbit, Bool.not_not, Bool.xor_true, hts2] at hts4
    exact ⟨hts2, hts3.trans hts2, hts4⟩

/-- Settles O22, by induction on the words: each tick keeps the lane's state, with which the words behind
it agree as well. -/
theorem agreeingPinIsNeverAccepted : Obligations.AgreeingPinIsNeverAccepted := by
  intro c ws
  induction ws with
  | nil => exact fun s _ _ => ⟨s, rfl, rfl⟩
  | cons w ws ih =>
    intro s hlevels hagree
    obtain ⟨hw, hrest⟩ := List.forall_mem_cons.mp hagree
    obtain ⟨hts, -⟩ := lane_pseudoNext_of_agree Config.tables hw
    obtain ⟨t, hrun, hkept⟩ := ih _ (pseudoNext_levelsInRange Config.tables w hlevels)
      (by rwa [hts])
    refine ⟨t, ?_, hkept.trans hts⟩
    rw [runTicks_cons, exec_tick_eq_pseudoNext w hlevels, andThen_next, hrun]

/-! ## A dark light stays dark (43_color_fader.md R146; 45_gamma_dither_pwm.md R166, R169) -/

/-- FADE does not move a level that is at its target. -/
theorem pseudoCurrent_of_at_target {w : InWord} {s : State} {c : Colour}
    (h : pseudoTarget w s c = (s.current.get c).toNat) :
    pseudoCurrent w s c = (s.current.get c).toNat := by
  simp [pseudoCurrent, h]

theorem pseudoLevel_of_dark {w : InWord} {s : State} (h : ∀ c, pseudoCurrent w s c = 0)
    (k : OutChannel) : pseudoLevel w s k = 0 := by
  cases k <;> simp [pseudoLevel, h]

theorem eq_zero_of_popcount_eq_zero {b : Byte} (h : Config.popcount b = 0) : b = 0#8 := by
  simp only [Config.popcount, Nat.add_eq_zero_iff, Bool.toNat_eq_zero] at h
  refine BitVec.eq_of_getLsbD_eq fun i hi => ?_
  rw [BitVec.getLsbD_zero]
  interval_cases i <;> simp only [h]

/-- The first entries of the two tables hold no bit. -/
theorem pseudoDuty_zero (T : Config.Tables) (t : Nat) : pseudoDuty T 0 t = 0 := by
  have hdither : T.dither 0 = 0#8 := eq_zero_of_popcount_eq_zero (T.dither_density 0)
  simp [pseudoDuty, T.gamma_first, hdither]

/-! ## Idle ticks from reset (70_reset_and_hazards.md R232, R233) -/

/-- The reset state, but for what idle ticks change. -/
def idleState (phase : PhaseCode) (ct0 ct1 : Lanes) (tick : Byte) : State :=
  { State.reset with lastPhase := .all phase, ct0 := ct0, ct1 := ct1, tick := tick }

theorem reset_eq_idleState : State.reset = idleState 0#2 0#3 0#3 0#8 := rfl

section idleState
variable (phase : PhaseCode) (ct0 ct1 : Lanes) (tick : Byte)

theorem idleState_levelsInRange : (idleState phase ct0 ct1 tick).LevelsInRange :=
  rangesHoldAtReset.1

theorem pseudoRawChange_idleState :
    pseudoRawChange idleWord (idleState phase ct0 ct1 tick) = 0#3 :=
  show 0#3 ^^^ ~~~ (idleWord.extractLsb' 6 3) = 0#3 by decide

variable {phase}

/-- Seen at a code an even distance from the idle pair, no encoder moves its target. -/
theorem pseudoTarget_idleState (hphase : moveOfDiff (phaseDiff phase 2#2) = .none) (c : Colour) :
    pseudoTarget idleWord (idleState phase ct0 ct1 tick) c = 0 := by
  obtain ⟨-, htarget⟩ := pseudoNext_of_released Config.tables (w := idleWord)
    (s := idleState phase ct0 ct1 tick) rfl rfl
  have hidle : phaseCode (inA idleWord c) (inB idleWord c) = 2#2 := by cases c <;> rfl
  have hlast : (idleState phase ct0 ct1 tick).lastPhase.get c = phase := PerColour.get_all _ c
  have hzero : (idleState phase ct0 ct1 tick).target.get c = 0#8 := PerColour.get_all _ c
  rw [← pseudoNext_target_get_toNat Config.tables, htarget, hidle, hlast, hphase, hzero]
  rfl

theorem pseudoCurrent_idleState (hphase : moveOfDiff (phaseDiff phase 2#2) = .none) (c : Colour) :
    pseudoCurrent idleWord (idleState phase ct0 ct1 tick) c = 0 := by
  have hzero : ((idleState phase ct0 ct1 tick).current.get c).toNat = 0 :=
    congrArg BitVec.toNat (PerColour.get_all _ c)
  rw [pseudoCurrent_of_at_target (by rw [pseudoTarget_idleState _ _ _ hphase, hzero]), hzero]

/-- An idle tick brings every lane to rest, flips `ct1` and moves the counter. -/
theorem exec_tick_idleState (hphase : moveOfDiff (phaseDiff phase 2#2) = .none) :
    exec (.tick idleWord) (idleState phase ct0 ct1 tick) =
      .next (idleState 2#2 7#3 (7#3 ^^^ ct1) (nextTick tick)) := by
  have hts : pseudoTs idleWord (idleState phase ct0 ct1 tick) = 0#3 :=
    pseudoTs_of_agree _ _ (pseudoRawChange_idleState phase ct0 ct1 tick)
  have hct0 : pseudoCt0 idleWord (idleState phase ct0 ct1 tick) = 7#3 := by
    rw [pseudoCt0, pseudoRawChange_idleState, BitVec.and_zero]; rfl
  have hrpt : pseudoRpt idleWord (idleState phase ct0 ct1 tick) = 750 := if_pos hts
  have hcurrent := pseudoCurrent_idleState ct0 ct1 tick hphase
  have htick : BitVec.ofNat 8 ((tick.toNat + 1) % 256) = nextTick tick := by
    simp [← nextTick_toNat]
  rw [exec_tick_eq_pseudoNext _ (idleState_levelsInRange _ _ _ _), pseudoNext]
  simp only [hts, hct0, hrpt, hcurrent, pseudoTarget_idleState _ _ _ hphase,
    pseudoLevel_of_dark hcurrent, pseudoDuty_zero, pseudoCt1]
  rw [← htick]
  rfl

end idleState

/-- The state after `n` idle ticks from reset, for `n > 0`. -/
def idleAfter (n : Nat) : State :=
  idleState 2#2 7#3 (if n % 2 = 1 then 7#3 else 0#3) (BitVec.ofNat 8 n)

theorem exec_tick_idleAfter (n : Nat) :
    exec (.tick idleWord) (idleAfter n) = .next (idleAfter (n + 1)) := by
  have hct1 : 7#3 ^^^ (if n % 2 = 1 then 7#3 else 0#3) = if (n + 1) % 2 = 1 then 7#3 else 0#3 := by
    rcases Nat.mod_two_eq_zero_or_one n with h | h <;> simp [Nat.add_mod, h]
  have htick : nextTick (BitVec.ofNat 8 n) = BitVec.ofNat 8 (n + 1) := (BitVec.ofNat_add n 1).symm
  rw [idleAfter, exec_tick_idleState _ _ _ rfl, hct1, htick, idleAfter]

theorem runTicks_idleAfter (m n : Nat) :
    runTicks (List.replicate m idleWord) (idleAfter n) = .next (idleAfter (n + m)) := by
  induction m generalizing n with
  | zero => rfl
  | succ m ih =>
    rw [List.replicate_succ, runTicks_cons, exec_tick_idleAfter, andThen_next, ih, Nat.add_assoc,
      Nat.add_comm 1 m]

/-- Settles O48: the first idle tick leaves reset for `idleAfter 1`, and each one behind it counts. -/
theorem idleTicksFromReset : Obligations.IdleTicksFromReset := by
  intro n hn
  obtain ⟨m, rfl⟩ := Nat.exists_eq_add_of_lt hn
  have hfirst : exec (.tick idleWord) State.reset = .next (idleAfter 1) :=
    reset_eq_idleState ▸ exec_tick_idleState 0#3 0#3 0#8 rfl
  rw [Nat.zero_add, List.replicate_succ, runTicks_cons, hfirst, andThen_next, runTicks_idleAfter,
    Nat.add_comm 1 m]
  rfl

end Sys2Proof.Machine
end

section
/-! PROOFS. The colour fader (43_color_fader.md) over whole ticks: the one unit of a fade tick, and the
fade steps that a run of idle ticks holds. -/

namespace Sys2Proof.Machine

open Sys2Proof

/-! ## Moving toward a goal (43_color_fader.md R146, R148) -/

section approach
variable (n goal : Nat)

theorem approach_zero : approach 0 n goal = n := by
  unfold approach
  split <;> omega

/-- One unit of an approach is the sign of the exact difference. -/
theorem approach_one : approach 1 n goal = ((n : Int) + Int.sign ((goal : Int) - n)).toNat := by
  unfold approach
  rcases lt_trichotomy ((goal : Int) - n) 0 with hlt | heq | hgt
  · rw [Int.sign_eq_neg_one_of_neg hlt, if_neg (by omega)]; omega
  · rw [heq, Int.sign_zero, if_pos (by omega)]; omega
  · rw [Int.sign_eq_one_of_pos hgt, if_pos (by omega)]; omega

/-- An approach does not pass its goal, so a second one goes on where the first ended. -/
theorem approach_approach (j k : Nat) :
    approach k (approach j n goal) goal = approach (j + k) n goal := by
  unfold approach
  split_ifs <;> omega

end approach

/-! ## The fader in a tick (43_color_fader.md R147, R151) -/

/-- The fade steps of a tick that starts with the counter at `t` (46_tick_dispatcher.md R184). -/
def fadeSteps (t : Byte) : Nat := if t.toNat % 32 = 0 then 1 else 0

/-- Each level moves toward the target that the same tick leaves, and only by the tick's fade step. -/
theorem pseudoNext_current_eq_approach (T : Config.Tables) (w : InWord) (s : State) (c : Colour) :
    ((pseudoNext T w s).current.get c).toNat =
      approach (fadeSteps s.tick) (s.current.get c).toNat
        ((pseudoNext T w s).target.get c).toNat := by
  unfold fadeSteps
  split
  next hfade =>
    rw [pseudoNext_current_get_toNat, pseudoNext_target_get_toNat, approach_one]
    exact if_pos hfade
  next hother => rw [pseudoNext_current_of_no_fade T w s hother, approach_zero]

/-- Settles O44: a completed tick ends in the state of the pseudocode, with one fade step in a fade tick
and none in any other. -/
theorem tickFadesAtMostOneUnit : Obligations.TickFadesAtMostOneUnit := by
  intro w s t htick c
  obtain rfl := exec_tick_eq_next htick
  refine ⟨fun hother => ?_, fun hfade => ?_⟩
  · rw [pseudoNext_current_of_no_fade _ w s hother]
  · rw [pseudoNext_current_eq_approach, fadeSteps, if_pos hfade]

/-! ## The fade steps of a run of ticks (43_color_fader.md R147) -/

theorem pseudoNext_tick (T : Config.Tables) (w : InWord) (s : State) :
    (pseudoNext T w s).tick = nextTick s.tick := by
  rw [← levelStages_eq_pseudoNext]

/-- The fade steps of `m` ticks, the first of them with the counter at `t`. -/
def fadeStepsIn (t : Byte) : Nat → Nat
  | 0 => 0
  | m + 1 => fadeSteps t + fadeStepsIn (nextTick t) m

/-- `(t + 31) mod 32` ticks have passed since the last fade tick. -/
theorem fadeStepsIn_eq (t : Byte) (m : Nat) : fadeStepsIn t m = ((t.toNat + 31) % 32 + m) / 32 := by
  induction m generalizing t with
  | zero => rw [fadeStepsIn]; omega
  | succ m ih =>
    rw [fadeStepsIn, fadeSteps, ih, nextTick_toNat]
    split <;> omega

/-- Wherever the counter starts, 32 ticks hold one fade tick. -/
theorem fadeStepsIn_mul (t : Byte) (n : Nat) : fadeStepsIn t (32 * n) = n := by
  rw [fadeStepsIn_eq]
  omega

/-! ## Idle ticks from rest (43_color_fader.md R148; 70_reset_and_hazards.md R233) -/

theorem phaseCode_idleWord (c : Colour) : phaseCode (inA idleWord c) (inB idleWord c) = 2#2 := by
  cases c <;> rfl

/-- An idle tick from rest ends at rest and moves no target. -/
theorem pseudoNext_idleWord_of_atRest (T : Config.Tables) {s : State} (hrest : s.AtRest) :
    (pseudoNext T idleWord s).AtRest ∧ (pseudoNext T idleWord s).target = s.target := by
  obtain ⟨hlast, hts, -⟩ := hrest
  obtain ⟨hts', htarget⟩ := pseudoNext_of_released T hts (w := idleWord) rfl
  have hraw : pseudoRawChange idleWord s = 0#3 := by rw [pseudoRawChange, hts]; decide
  refine ⟨⟨PerColour.ext_get fun c => ?_, hts', ?_⟩, PerColour.ext_get fun c => ?_⟩
  · rw [pseudoNext_lastPhase_get, phaseCode_idleWord, PerColour.get_all]
  · rw [pseudoNext_ct0, pseudoCt0, hraw, BitVec.and_zero]; rfl
  · rw [htarget, phaseCode_idleWord, hlast, PerColour.get_all]; rfl

/-- Idle ticks from rest leave the targets alone, so the fade steps they hold add up to one approach. -/
theorem runTicks_idle_of_atRest (m : Nat) {s : State} (hrest : s.AtRest) (hlevels : s.LevelsInRange) :
    ∃ t, runTicks (List.replicate m idleWord) s = .next t ∧ t.target = s.target ∧
      ∀ c, (t.current.get c).toNat =
        approach (fadeStepsIn s.tick m) (s.current.get c).toNat (s.target.get c).toNat := by
  induction m generalizing s with
  | zero => exact ⟨s, rfl, rfl, fun c => (approach_zero _ _).symm⟩
  | succ m ih =>
    obtain ⟨hrest', htarget⟩ := pseudoNext_idleWord_of_atRest Config.tables hrest
    obtain ⟨t, hrun, hkept, hcurrent⟩ :=
      ih hrest' (pseudoNext_levelsInRange Config.tables idleWord hlevels)
    refine ⟨t, ?_, hkept.trans htarget, fun c => ?_⟩
    · rw [List.replicate_succ, runTicks_cons, exec_tick_eq_pseudoNext _ hlevels, andThen_next, hrun]
    · rw [hcurrent, pseudoNext_current_eq_approach, htarget, pseudoNext_tick, approach_approach,
        fadeStepsIn]

/-- Settles O26: the 32 n idle ticks hold n fade steps toward targets that stay where they are. -/
theorem faderConvergesWithoutOvershoot : Obligations.FaderConvergesWithoutOvershoot := by
  intro n s hrest hlevels
  have hrun := runTicks_idle_of_atRest (32 * n) hrest hlevels
  rwa [fadeStepsIn_mul] at hrun

end Sys2Proof.Machine
end

section
/-! PROOFS. The RGBW decomposer (44_rgbw_decomposer.md): DECOMP alone, and the bound on its levels with
which a whole tick completes. -/

namespace Sys2Proof.Machine

open Sys2Proof

/-! ## A tick on levels with table entries (44_rgbw_decomposer.md R158) -/

/-- Settles O38: the pseudocode's next state is the machine's while no level is above the table, and the
ranges keep every level inside it. -/
theorem tickCompletesInRange : Obligations.TickCompletesInRange :=
  fun w s => ⟨tickOp_next Config.tables w s, pseudoLevel_le w⟩

/-! ## White and residuals (44_rgbw_decomposer.md R156, R157) -/

section residual
variable (v : PerColour Byte)

theorem decomposed_colour (c : Colour) : (decomposed v).get c.out = v.get c - commonMinimum v := by
  cases c <;> rfl

theorem commonMinimum_le (c : Colour) : (commonMinimum v).toNat ≤ (v.get c).toNat := by
  rw [commonMinimum_toNat]
  cases c with
  | red => exact Nat.min_le_left _ _
  | green => exact (Nat.min_le_right _ _).trans (Nat.min_le_left _ _)
  | blue => exact (Nat.min_le_right _ _).trans (Nat.min_le_right _ _)

theorem exists_get_eq_commonMinimum : ∃ c, v.get c = commonMinimum v := by
  have hmin := commonMinimum_toNat v
  rcases min_choice v.red.toNat (min v.green.toNat v.blue.toNat) with hred | hrest
  · exact ⟨.red, BitVec.eq_of_toNat_eq (hmin.trans hred).symm⟩
  · rcases min_choice v.green.toNat v.blue.toNat with hgreen | hblue
    · exact ⟨.green, BitVec.eq_of_toNat_eq ((hmin.trans hrest).trans hgreen).symm⟩
    · exact ⟨.blue, BitVec.eq_of_toNat_eq ((hmin.trans hrest).trans hblue).symm⟩

theorem decomposed_colour_eq_sub_white (c : Colour) :
    ((decomposed v).get c.out).toNat = (v.get c).toNat - (decomposed v).white.toNat := by
  rw [decomposed_colour_toNat, ← decomposed_white_toNat]
  rfl

theorem white_add_decomposed_colour (c : Colour) :
    (decomposed v).white.toNat + ((decomposed v).get c.out).toNat = (v.get c).toNat := by
  rw [decomposed_colour_eq_sub_white]
  exact Nat.add_sub_of_le (commonMinimum_le v c)

theorem exists_decomposed_colour_eq_zero : ∃ c : Colour, (decomposed v).get c.out = 0#8 := by
  obtain ⟨c, hc⟩ := exists_get_eq_commonMinimum v
  exact ⟨c, by rw [decomposed_colour, hc, BitVec.sub_self]⟩

end residual

/-- Settles O27: the levels that the operation writes are `decomposed`, and the channel that attains the
minimum is the one with no residual. -/
theorem decompExtractsTheCommonWhite : Obligations.DecompExtractsTheCommonWhite :=
  fun s => ⟨rfl, decomposed s.current, rfl, decomposed_white_toNat s.current,
    decomposed_colour_eq_sub_white s.current, white_add_decomposed_colour s.current,
    exists_decomposed_colour_eq_zero s.current⟩

end Sys2Proof.Machine
end

section
/-! PROOFS. The gamma-corrected temporal-dither PWM encoder (45_gamma_dither_pwm.md): GAMMA, DITHER and DUTY
on one channel, the levels a whole tick shows, its mean duty, and the fault of a level above the table. -/

namespace Sys2Proof.Machine

open Sys2Proof

/-! ## The operations alone (45_gamma_dither_pwm.md R167, R170) -/

/-- Settles O28: the level is the index of its entry, and the type of the tables fixes the two end
entries. -/
theorem gammaReadsTheTable : Obligations.GammaReadsTheTable := by
  intro k s i hi
  have hlevel : (s.sig.level.get k).toNat < 41 := hi ▸ i.isLt
  obtain rfl : i = ⟨(s.sig.level.get k).toNat, hlevel⟩ := Fin.ext hi
  refine ⟨gammaOp_next Config.tables k s hlevel, fun h => ?_, fun h => ?_⟩
  · rw [h, Config.tables.gamma_first]
  · rw [h, Config.tables.gamma_last]

/-- Settles O29: above 40 the operation has no entry to read. -/
theorem gammaFaultsAboveTheTable : Obligations.GammaFaultsAboveTheTable :=
  fun k s h => gammaOp_fault Config.tables k s h

/-- The channel field of an output channel holds its number. -/
theorem outBits_eq_ofNat_index (k : OutChannel) : outBits k = BitVec.ofNat 2 k.index := by
  cases k <;> rfl

theorem decodeOp_duty (k : OutChannel) :
    decodeOp (0b1101#4 ++ BitVec.ofNat 2 k.index) = .ok (.duty k) := by
  simp [← outBits_eq_ofNat_index, decodeOp]

/-- Settles O31: the value that the operation writes is the quotient plus the bit, with no carry. -/
theorem dutyAddsTheDitherBit : Obligations.DutyAddsTheDitherBit :=
  fun k s => ⟨decodeOp_duty k, dutyValue (s.sig.pwm.get k) (s.sig.x.get k), rfl,
    dutyValue_toNat _ _, dutyValue_le _ _⟩

/-! ## The duty of a level (45_gamma_dither_pwm.md R171, R177) -/

theorem pseudoDuty_eq (T : Config.Tables) (i : Fin 41) {j : Fin 4} (hj : j.val = (T.gamma i).toNat % 4)
    (t : Nat) :
    pseudoDuty T i.val t = (T.gamma i).toNat / 4 + (T.dither j).toNat / 2 ^ (t % 8) % 2 := by
  have hgamma : Fin.ofNat 41 i.val = i := Fin.ofNat_val_eq_self i
  have hdither : Fin.ofNat 4 (T.gamma i).toNat = j := Fin.ext hj.symm
  rw [pseudoDuty, hgamma, hdither]

/-- The last entry of `GAMMA` is 255, which is 4 · 63 + 3. -/
theorem pseudoDuty_last (T : Config.Tables) (t : Nat) :
    pseudoDuty T 40 t = 63 + (T.dither 3).toNat / 2 ^ (t % 8) % 2 := by
  have h := pseudoDuty_eq T 40 (j := 3) (by rw [T.gamma_last]; rfl) t
  rwa [T.gamma_last] at h

/-- Settles O32: the three slots of a channel write the duty of its level, here the last one. -/
theorem fullLevelShowsTheLastPattern : Obligations.FullLevelShowsTheLastPattern := by
  intro k s hlevel
  obtain ⟨g, -, -, hrun⟩ :=
    pwmChannel_next Config.tables k s rfl rfl (by rw [hlevel]; decide)
  refine ⟨_, hrun, ?_⟩
  rw [PerOut.get_set_self, pwmEncoded_toNat, hlevel]
  exact pseudoDuty_last Config.tables s.sig.t.toNat

/-! ## The levels and duties that a tick leaves -/

section shown
variable (T : Config.Tables) (w : InWord) (s : State) (k : OutChannel)

/-- The levels of slot 20 are those of the Current Levels that the tick leaves. -/
theorem decomposed_pseudoNext_current :
    ((decomposed (pseudoNext T w s).current).get k).toNat = pseudoLevel w s k := by
  rw [← levelStages_eq_pseudoNext, ← levelStages_level]
  rfl

theorem pseudoNext_duty_toNat :
    ((pseudoNext T w s).duty.get k).toNat = pseudoDuty T (pseudoLevel w s k) s.tick.toNat := by
  have hle := pseudoDuty_le T (pseudoLevel w s k) s.tick.toNat
  rw [pseudoNext_duty, BitVec.toNat_ofNat]
  exact Nat.mod_eq_of_lt (by omega)

end shown

/-- Settles O34: the duty of level 0 is 0 at any tick value. -/
theorem darkMeansDark : Obligations.DarkMeansDark := by
  intro w s t h k hdark
  obtain rfl := exec_tick_eq_next h
  have hlevel : pseudoLevel w s k = 0 := by
    rw [← decomposed_pseudoNext_current Config.tables, hdark]
    rfl
  refine BitVec.eq_of_toNat_eq ?_
  rw [pseudoNext_duty_toNat, hlevel, pseudoDuty_zero]
  rfl

/-! ## The mean duty of a steady level (45_gamma_dither_pwm.md R173) -/

/-- Over one whole period the sum does not depend on where the period starts: a step to the right drops
`f t` and takes up `f (t + p)`, which is the same. -/
theorem sum_period_eq {f : Nat → Nat} {p : Nat} (hf : f.Periodic p) (t : Nat) :
    ((List.range p).map fun n => f (t + n)).sum = ((List.range p).map f).sum := by
  induction t with
  | zero => simp only [Nat.zero_add]
  | succ t ih =>
    have hlast := List.sum_range_succ (fun n => f (t + n)) p
    have hfirst := List.sum_range_succ' (fun n => f (t + n)) p
    have hshift : (fun n => f (t + 1 + n)) = fun n => f (t + n.succ) :=
      funext fun n => congrArg f (by omega)
    have hperiod : f (t + p) = f t := hf t
    rw [hshift]
    rw [Nat.add_zero] at hfirst
    omega

/-- Bit by bit, a byte has as many ones as its popcount says. -/
theorem sum_bits_eq_popcount (b : Byte) :
    ((List.range 8).map fun n => b.toNat / 2 ^ (n % 8) % 2).sum = Config.popcount b := by
  have hbit (n : Nat) : (b.getLsbD n).toNat = b.toNat / 2 ^ n % 2 := by
    rw [BitVec.getLsbD, Nat.toNat_testBit]
  simp only [Config.popcount, hbit]
  simp [List.range_succ, Nat.add_assoc]

/-- Eight ticks in a row read every bit of a pattern once, whatever the first of them reads. -/
theorem sum_pattern_eq_popcount (b : Byte) (t : Nat) :
    ((List.range 8).map fun n => b.toNat / 2 ^ ((t + n) % 8) % 2).sum = Config.popcount b := by
  have hperiodic : Function.Periodic (fun n => b.toNat / 2 ^ (n % 8) % 2) 8 := fun n => by
    simp only [Nat.add_mod_right]
  exact (sum_period_eq hperiodic t).trans (sum_bits_eq_popcount b)

/-- Eight times the quotient and the `2 j` bits of pattern `j` are twice the gamma result. -/
theorem sum_pseudoDuty (T : Config.Tables) (i : Fin 41) (t : Nat) :
    ((List.range 8).map fun n => pseudoDuty T i.val (t + n)).sum = 2 * (T.gamma i).toNat := by
  have hj : (Fin.ofNat 4 (T.gamma i).toNat).val = (T.gamma i).toNat % 4 := rfl
  simp only [pseudoDuty_eq T i hj, List.sum_map_add, sum_pattern_eq_popcount, T.dither_density, hj,
    List.map_const', List.sum_replicate, List.length_range, smul_eq_mul]
  omega

theorem pseudoDuty_mod_256 (T : Config.Tables) (level t : Nat) :
    pseudoDuty T level (t % 256) = pseudoDuty T level t := by
  rw [pseudoDuty, pseudoDuty, Nat.mod_mod_of_dvd t (by decide)]

/-- Every tick moves the counter by one. -/
theorem tickRun_tick (word : Nat → InWord) (s : State) (n : Nat) :
    (tickRun word s n).tick.toNat = (s.tick.toNat + n) % 256 := by
  induction n with
  | zero => exact (Nat.mod_eq_of_lt s.tick.isLt).symm
  | succ n ih =>
    rw [tickRun, pseudoNext_tick, nextTick_toNat, ih]
    omega

/-- Settles O33: with a steady level the eight duties are those of one level at eight tick values in a
row. -/
theorem ditherMeanIsAQuarterOfTheGammaResult : Obligations.DitherMeanIsAQuarterOfTheGammaResult := by
  intro s word hlevels
  refine ⟨tickRun word s, rfl, tickRun_ticksThrough hlevels, fun k i hsteady => ?_⟩
  have hduty (n : Nat) (hn : n < 8) : ((tickRun word s (n + 1)).duty.get k).toNat =
      pseudoDuty Config.tables i.val (s.tick.toNat + n) := by
    have hlevel : pseudoLevel (word n) (tickRun word s n) k = i.val :=
      (decomposed_pseudoNext_current Config.tables _ _ k).symm.trans (hsteady n hn)
    rw [tickRun, pseudoNext_duty_toNat, hlevel, tickRun_tick, pseudoDuty_mod_256]
  rw [List.map_congr_left fun n hn => hduty n (List.mem_range.mp hn)]
  exact sum_pseudoDuty Config.tables i s.tick.toNat

/-! ## A level above the table (45_gamma_dither_pwm.md R167; 60_exceptions.md R201) -/

/-- Settles O39: with a level above 40 the first such channel faults, and without one the tick
completes. -/
theorem tickFaultsExactlyAboveTheTable : Obligations.TickFaultsExactlyAboveTheTable := by
  intro w s
  constructor
  · rintro ⟨e, hfault⟩
    by_contra! hle
    exact absurd (hfault.symm.trans (tickOp_next Config.tables w s hle)) nofun
  · rintro ⟨k, hk⟩
    have hsome : ([OutChannel.red, .green, .blue, .white].find?
        fun j => 40 < pseudoLevel w s j).isSome :=
      List.find?_isSome.mpr ⟨k, by cases k <;> simp, by simpa using hk⟩
    obtain ⟨j, hj⟩ := Option.isSome_iff_exists.mp hsome
    exact ⟨_, tickOp_fault Config.tables hj⟩

/-- The channel that R167 lets fault: the first in the order R, G, B, W. -/
theorem find?_outChannels {p : OutChannel → Bool} {k : OutChannel} (hk : p k = true)
    (hbefore : ∀ j, j.index < k.index → p j = false) :
    [OutChannel.red, .green, .blue, .white].find? p = some k := by
  cases k with
  | red => simp [hk]
  | green => simp [hbefore .red (by decide), hk]
  | blue => simp [hbefore .red (by decide), hbefore .green (by decide), hk]
  | white =>
    simp [hbefore .red (by decide), hbefore .green (by decide), hbefore .blue (by decide), hk]

/-- A run in two parts, the second from where the first ends. -/
theorem core_run_add (n m : Nat) (s : State) :
    Host.Core.run Sys2Proof.core (n + m) s =
      andThen (Host.Core.run Sys2Proof.core n s) (Host.Core.run Sys2Proof.core m) := by
  induction n generalizing s with
  | zero => rw [Nat.zero_add]; rfl
  | succ n ih =>
    rw [Nat.add_right_comm]
    refine (core_run_succ (n + m) s).trans ?_
    calc andThen (step s) (Host.Core.run Sys2Proof.core (n + m))
        _ = andThen (step s) fun t => andThen (Host.Core.run Sys2Proof.core n t)
              (Host.Core.run Sys2Proof.core m) := congrArg (andThen (step s)) (funext ih)
        _ = andThen (andThen (step s) (Host.Core.run Sys2Proof.core n))
              (Host.Core.run Sys2Proof.core m) := (andThen_assoc _ _ _).symm
        _ = andThen (Host.Core.run Sys2Proof.core (n + 1) s) (Host.Core.run Sys2Proof.core m) :=
          congrArg (andThen · _) (core_run_succ n s).symm

/-- Settles O53: the step behind the first `n` faults, and a run does not go on behind a fault. -/
theorem faultIsKept : Obligations.FaultIsKept := by
  intro s u w rest n k hrun hstim hk hbefore m
  have hfirst : [OutChannel.red, .green, .blue, .white].find?
      (fun j => 40 < pseudoLevel w { u with stimulus := rest } j) = some k :=
    find?_outChannels (decide_eq_true hk) fun j hj => decide_eq_false (hbefore j hj).not_gt
  have hfault : step u = .fault (.gammaIndexOutOfRange k (BitVec.ofNat 8 (pseudoLevel w u k))) :=
    (step_of_decode hstim (decodeRequest_tickRequest w)).trans (tickOp_fault Config.tables hfirst)
  rw [Nat.add_assoc, core_run_add, hrun, Nat.add_comm 1 m]
  exact core_run_fault m hfault

end Sys2Proof.Machine
end

section
/-! PROOFS. The tick dispatcher (46_tick_dispatcher.md): TICK against its pseudocode, TICKINC alone, and the
steps in which nothing is requested. -/

namespace Sys2Proof.Machine

open Sys2Proof

/-! ## TICK and TICKINC (46_tick_dispatcher.md R183, R185) -/

/-- Settles O37: `exec` runs TICK at the hardware's tables, and for every pair of tables the 34 operations
answer what the pseudocode answers. -/
theorem tickMeetsItsPseudocode : Obligations.TickMeetsItsPseudocode :=
  tickOp_eq_tickPseudocode Config.tables

/-- Settles O36: the value that TICKINC writes is the counter's successor. -/
theorem tickincAdvancesTheCounter : Obligations.TickincAdvancesTheCounter :=
  fun s => ⟨nextTick s.sig.t, rfl, nextTick_toNat s.sig.t⟩

/-! ## Steps without a request (60_exceptions.md R209, R218) -/

theorem step_of_no_request {s : State} (h : pendingRequest s = none) : step s = .next (popRequest s) := by
  simp only [step, h]

theorem pendingRequest_of_nil {s : State} (hs : s.stimulus = []) : pendingRequest s = none := by
  simp only [pendingRequest, hs]

theorem pendingRequest_of_silent {s : State} {rest : List Request}
    (hs : s.stimulus = { rst := false, word := [] } :: rest) : pendingRequest s = none := by
  simp [pendingRequest, hs]

/-- With nothing in the stimulus there is nothing to take. -/
theorem popRequest_of_nil {s : State} (hs : s.stimulus = []) : popRequest s = s := by
  rw [popRequest, hs, List.tail_nil, ← hs]

/-- Settles O7: in both forms nothing is pending, so the step only moves the stimulus on, and an empty
stimulus stays as it is. -/
theorem stepWithoutRequestChangesNothing : Obligations.StepWithoutRequestChangesNothing := by
  constructor
  · intro s hs
    rw [step_of_no_request (pendingRequest_of_nil hs), popRequest_of_nil hs]
  · intro s rest hs
    rw [step_of_no_request (pendingRequest_of_silent hs), popRequest_of_cons hs]

end Sys2Proof.Machine
end

section
/-! PROOFS. What can interrupt CORE (60_exceptions.md): `rst`, which overrides the tick request it comes
with, and the one fault, which no step raises while the ranges hold. -/

namespace Sys2Proof.Machine

open Sys2Proof

/-! ## `rst` (60_exceptions.md R205) -/

/-- Under `rst` the word is not looked at, so no word keeps the request from being a RESET. -/
theorem decodeRequest_of_rst {q : Request} (hq : q.rst = true) : decodeRequest q = .ok .reset := by
  rw [decodeRequest, if_pos hq]

theorem step_of_rst {s : State} {q : Request} {rest : List Request}
    (hs : s.stimulus = q :: rest) (hq : q.rst = true) :
    step s = .next (resetRegisters { s with stimulus := rest }) :=
  step_of_decode hs (decodeRequest_of_rst hq)

/-- Settles O8: a request under `rst` is a RESET whatever it presents, and RESET leaves the ports and the
stimulus behind the request. -/
theorem rstOverridesATickRequest : Obligations.RstOverridesATickRequest :=
  fun _ _ _ hs => step_of_rst hs rfl

/-! ## No fault in range (60_exceptions.md R201, R249) -/

/-- Settles O51: the invariant that every step keeps excludes a fault in the same step, since GAMMA then
finds its table entry in every slot and in every request. -/
theorem noStepFaultsInRange : Obligations.NoStepFaultsInRange :=
  fun _ e h => (step_staysInRange h).ne_fault e

end Sys2Proof.Machine
end
